-- ==== Sys2Proof/Word.lean ====
section
/-! DEFINITION. The word types of B57CORE (00_scope.md R12) and the four byte classes (40_classifier.md R102). -/

namespace Sys2Proof

/-- A byte, the unit of every data stream (R12, R51). -/
abbrev Byte := BitVec 8

/-- The command word `CW` (R70). -/
abbrev CmdWord := BitVec 16

/-- The data operand `DIN` presented with a command word (R70). -/
abbrev DataWord := BitVec 64

/-- A symbol value as `PEND` holds it: 6 bits, 0..56 in use (R12, R21). -/
abbrev SymWord := BitVec 6

/-- The `val` field of a response: 65 bits (R76). -/
abbrev ValWord := BitVec 65

/-- The source's result of `classify(byte)` (R79, R102): the class of a byte, a Digit with its
symbol value. -/
inductive ByteClass where
  | digit (v : Nat)
  | delimiter
  | control
  | invalid
deriving DecidableEq, Repr

end Sys2Proof
end

