-- ==== Sys2Proof/Machine/Operands.lean ====
section
/-! DEFINITION. The fields of a command word (30_encoding.md R70, R72), the formats that build one, the assembly of
operands (R84) and the byte order of blocks and tails (20_memory.md R52, R53). -/

namespace Sys2Proof.Machine

open Sys2Proof

/-- `op = CW[15:12]` (R70). -/
def opField (cw : CmdWord) : BitVec 4 := cw.extractLsb' 12 4

/-- `n = CW[10:8]` (R70). -/
def nField (cw : CmdWord) : BitVec 3 := cw.extractLsb' 8 3

/-- `b = CW[7:0]` (R70). -/
def bField (cw : CmdWord) : Byte := cw.extractLsb' 0 8

/-- `r = CW[3:0]` (R70). -/
def rField (cw : CmdWord) : BitVec 4 := cw.extractLsb' 0 4

/-- Formats Z and D show `CW[11:0]` as 0 (R72). -/
def plainZ (cw : CmdWord) : Bool := cw.extractLsb' 0 12 == 0#12

/-- Format B shows `CW[11:8]` as 0 (R72). -/
def plainB (cw : CmdWord) : Bool := cw.extractLsb' 8 4 == 0#4

/-- Format T shows `CW[11]` and `CW[7:0]` as 0 (R72). -/
def plainT (cw : CmdWord) : Bool := cw.extractLsb' 11 1 == 0#1 && cw.extractLsb' 0 8 == 0#8

/-- Format R shows `CW[11:4]` as 0 (R72). -/
def plainR (cw : CmdWord) : Bool := cw.extractLsb' 4 8 == 0#8

/-- A command word of format Z or D (R72). -/
def formatZ (op : BitVec 4) : CmdWord := op ++ 0#12

/-- A command word of format B (R72). -/
def formatB (op : BitVec 4) (b : Byte) : CmdWord := op ++ 0#4 ++ b

/-- A command word of format T (R72). -/
def formatT (op : BitVec 4) (n : BitVec 3) : CmdWord := op ++ 0#1 ++ n ++ 0#8

/-- A command word of format R (R72). -/
def formatR (op : BitVec 4) (r : BitVec 4) : CmdWord := op ++ 0#8 ++ r

/-- The tail operand of ENCT: `trunc_{8n}(DIN)` (R84, R172). -/
def tailOperand (n : BitVec 3) (din : DataWord) : Nat := din.toNat % 256 ^ n.toNat

/-- `le_N(q)`: the number whose little-endian bytes are `q` (R13, R52, R53). -/
def leNat : List Byte → Nat
  | [] => 0
  | b :: q => b.toNat + 256 * leNat q

/-- `bytes_le_N(v)`: the `n` little-endian bytes of `v` (R13, R52, R53). -/
def bytesLe (n v : Nat) : List Byte :=
  (List.range n).map fun j => BitVec.ofNat 8 (v / 256 ^ j)

end Sys2Proof.Machine
end

