-- ==== Sys2Proof/Config.lean ====
section
/-! DEFINITION. The parameters that 00_scope.md R11 asks a model to hold as configuration fields. Their
default values are in Sys2Proof/Machine/Tables.lean (`config`). The spec leaves no VALUE of an
instruction open, so there is no free value here. -/

namespace Sys2Proof

/-- The implementation parameters of R11. A configuration is fixed for the machine: it is no part of
the state (10_state.md R33, R36). -/
structure Config where
  /-- `ALPHABET[0..56]`: the symbol of each symbol value (R100). -/
  alphabet : List Byte
  /-- `DELIM`: the delimiter bytes (R103). -/
  delim : List Byte
  /-- `CONTROL`: the control bytes (R104). -/
  control : List Byte
  /-- `LINE_BREAK`: the byte the framer puts between lines (R103). -/
  lineBreak : Byte
  /-- The offset rule, of the form `s[i] = (offset s[i-1] + d[i]) mod 57` that R122 speaks of. -/
  offset : Nat → Nat

/-- `NSYM`, the size of the alphabet (R6). -/
def nsym : Nat := 57

/-- `GROUP`, the symbols of a full group (R6). -/
def groupSymbols : Nat := 11

/-- `BLOCK`, the bytes of a full block (R6). -/
def blockBytes : Nat := 8

/-- `LINE_GROUPS`, the groups of a full text line (R6). -/
def lineGroups : Nat := 8

/-- `LINE_CHARS`, the symbols of a full text line (R6). -/
def lineChars : Nat := 88

/-- An ASCII control code: 0x00..0x1F and 0x7F (R104). -/
def isAsciiControl (b : Byte) : Bool := decide (b.toNat < 0x20) || b == 0x7F

/-- An ASCII letter or digit (R101). -/
def isAsciiAlphanumeric (b : Byte) : Bool :=
  decide (0x30 ≤ b.toNat ∧ b.toNat ≤ 0x39) || decide (0x41 ≤ b.toNat ∧ b.toNat ≤ 0x5A)
    || decide (0x61 ≤ b.toNat ∧ b.toNat ≤ 0x7A)

/-- The ASCII whitespace bytes HT, LF, VT, FF, CR and SP (R103). -/
def asciiWhitespace : List Byte := [0x09, 0x0A, 0x0B, 0x0C, 0x0D, 0x20]

/-- The glyphs `0`, `O`, `1`, `l`, `I`, `+`, `-`, `/` and `=`, which no alphabet holds (R11, R101). -/
def excludedGlyphs : List Byte := [0x30, 0x4F, 0x31, 0x6C, 0x49, 0x2B, 0x2D, 0x2F, 0x3D]

/-- The number of delimiter bytes (R108(b)). -/
def delimCount : Nat := 6

/-- The number of control bytes (R108(b)). -/
def controlCount : Nat := 28

/-- `ALPHABET` is a bijection from the 57 symbol values, onto alphanumeric bytes that are no control character and no
excluded glyph (R11, R101, R108(a)), none of them a Delimiter or a Control (R108(c)). -/
def Config.alphabetWf (c : Config) : Bool :=
  c.alphabet.length == nsym && decide c.alphabet.Nodup
    && c.alphabet.all (fun b => isAsciiAlphanumeric b && !isAsciiControl b && !excludedGlyphs.contains b)
    && c.alphabet.all (fun b => !c.delim.contains b && !c.control.contains b)

/-- `DELIM` is a set of 6 whitespace bytes (R11, R108(b)), the line break among them (R108(d)). -/
def Config.delimWf (c : Config) : Bool :=
  c.delim.length == delimCount && decide c.delim.Nodup && c.delim.all asciiWhitespace.contains
    && c.delim.contains c.lineBreak

/-- `CONTROL` is a set of 28 ASCII control bytes not used as delimiters (R11, R108(b)). -/
def Config.controlWf (c : Config) : Bool :=
  c.control.length == controlCount && decide c.control.Nodup
    && c.control.all (fun b => isAsciiControl b && !c.delim.contains b)

/-- What R11 and R108 ask of ANY configuration. The three sets hold no byte twice and no byte in common, so each byte has
one class, and the other 256 - 57 - 6 - 28 = 165 bytes are Invalid (R108(b)); R108(e) is that a configuration is no part
of the state. No rule asks anything of the offset. -/
def Config.wf (c : Config) : Bool := c.alphabetWf && c.delimWf && c.controlWf

end Sys2Proof
end

