-- ==== Sys2Proof/Machine/Tables.lean ====
section
/-! DEFINITION. The constant tables of 10_state.md R33 (`ALPHABET`, `CLASS`, `BASE`, `MAG`, `DIGITS`, `BYTES`) and
the default values of the parameters of R11. No command writes a table. -/

namespace Sys2Proof.Machine

open Sys2Proof

/-- `ALPHABET` in ascending ASCII order (R100): the codes of `2`..`9`, of `A`..`Z` without `I` and `O`, and of
`a`..`z` without `l`. -/
def defaultAlphabet : List Byte :=
  [0x32, 0x33, 0x34, 0x35, 0x36, 0x37, 0x38, 0x39,
   0x41, 0x42, 0x43, 0x44, 0x45, 0x46, 0x47, 0x48, 0x4A, 0x4B, 0x4C, 0x4D, 0x4E,
   0x50, 0x51, 0x52, 0x53, 0x54, 0x55, 0x56, 0x57, 0x58, 0x59, 0x5A] ++
  [0x61, 0x62, 0x63, 0x64, 0x65, 0x66, 0x67, 0x68, 0x69, 0x6A, 0x6B,
   0x6D, 0x6E, 0x6F, 0x70, 0x71, 0x72, 0x73, 0x74, 0x75, 0x76, 0x77, 0x78, 0x79, 0x7A]

/-- `DELIM`, the six ASCII whitespace bytes (R103). -/
def defaultDelim : List Byte := [0x09, 0x0A, 0x0B, 0x0C, 0x0D, 0x20]

/-- `CONTROL`, the ASCII control codes that are no delimiter (R104). -/
def defaultControl : List Byte :=
  [0x00, 0x01, 0x02, 0x03, 0x04, 0x05, 0x06, 0x07, 0x08,
   0x0E, 0x0F, 0x10, 0x11, 0x12, 0x13, 0x14, 0x15, 0x16, 0x17,
   0x18, 0x19, 0x1A, 0x1B, 0x1C, 0x1D, 0x1E, 0x1F, 0x7F]

/-- The configuration of the modelled block: every parameter at its default (R11). -/
def config : Config where
  alphabet := defaultAlphabet
  delim := defaultDelim
  control := defaultControl
  lineBreak := 0x0A
  offset := fun prev => prev + 1

/-- `ALPHABET[v]`: the symbol of a symbol value (R100). -/
def symbolByte (v : Nat) : Byte := config.alphabet.getD v 0

/-- The class of a byte (R102 to R105): a Digit if it is in the alphabet, else a Delimiter, else a Control,
else Invalid. -/
def classify (b : Byte) : ByteClass :=
  match config.alphabet.findIdx? (· == b) with
  | some v => .digit v
  | none =>
    if config.delim.contains b then .delimiter
    else if config.control.contains b then .control
    else .invalid

/-- `CLASS[b]`, packed as R102 says: the class code in bits 7..6, the symbol value of a Digit in bits 5..0. -/
def classEntry (b : Byte) : Byte :=
  match classify b with
  | .digit v => 0b00#2 ++ BitVec.ofNat 6 v
  | .delimiter => 0b01#2 ++ 0#6
  | .control => 0b10#2 ++ 0#6
  | .invalid => 0b11#2 ++ 0#6

/-- `BASE[0..10]` (R7), position 0 first. -/
def base : List Nat := [57, 56, 57, 56, 57, 56, 56, 57, 56, 57, 56]

/-- The running products of a list of bases, from `w` on: `[w, w * b0, w * b0 * b1, ...]`. -/
def productsFrom (w : Nat) : List Nat → List Nat
  | [] => [w]
  | b :: bs => w :: productsFrom (w * b) bs

/-- `MAG[0..11]`, derived from `BASE` (R8, R130). -/
def mags : List Nat := productsFrom 1 base

/-- `MAG[i]` (R8). -/
def mag (i : Nat) : Nat := mags.getD i 0

/-- The table `DIGITS[0..8]` (R9). -/
def digitsTable : List Nat := [0, 2, 3, 5, 6, 7, 9, 10, 11]

/-- `DIGITS[n]`, the symbols of a group of `n` bytes (R9). -/
def digitsOf (n : Nat) : Nat := digitsTable.getD n 0

/-- The table `BYTES[0..11]` (R9); `none` at 1, 4 and 8. -/
def bytesTable : List (Option Nat) :=
  [some 0, none, some 1, some 2, none, some 3, some 4, some 5, none, some 6, some 7, some 8]

/-- `BYTES[k]`, the bytes of a group of `k` symbols (R9, R154). -/
def bytesOf (k : Nat) : Option Nat := bytesTable.getD k none

/-- `BYTES_UP[0..10]` (R199): the most bytes that `r` digits can give. -/
def bytesUpTable : List Nat := [0, 0, 1, 2, 2, 3, 4, 5, 5, 6, 7]

/-- `BYTES_UP[r]` (R199). -/
def bytesUp (r : Nat) : Nat := bytesUpTable.getD r 0

/-- `DMAX10`, the largest valid top digit of a full group (R10). -/
def dmax10 : Nat := 55

/-- `LIM10`, the largest lower part valid under the top digit `DMAX10` (R10). -/
def lim10 : Nat := (2 ^ 64 - 1) - dmax10 * mag 10

end Sys2Proof.Machine
end

