-- ==== Sys2Proof/Syntax.lean ====
section
/-! DEFINITION. Syntax: one constructor for every mnemonic of spec/opcode_table.json, and the two kinds of
word that B57CORE decodes (30_encoding.md, opening paragraph). -/

namespace Sys2Proof

/-- A word presented to the block (30_encoding.md: "B57CORE decodes two kinds of word"). -/
inductive PortWord where
  /-- A command on the command port: the pair `(CW, DIN)` (R70). -/
  | command (cw : CmdWord) (din : DataWord)
  /-- An input byte of the decoder's text stream, the word of the opcode table's rows with
  `"space": "byte"` (R79). Assumption 4 says how it stands to DECB. -/
  | textByte (b : Byte)
deriving DecidableEq, Repr

/-- The instructions. The first twelve are the commands of R71, with the operands of R84; the others are
the input bytes of R79 (`SYM.CTRL`, `SYM.DELIM` and `SYM.INVAL` stand for several bytes and keep the byte). -/
inductive Instr where
  | nop
  | rst
  | dinit
  | einit
  | cls (b : Byte)
  | enc8 (x : DataWord)
  | enct (n : BitVec 3) (din : DataWord)
  | enclen (x : DataWord)
  | decmax (x : DataWord)
  | decb (b : Byte)
  | flush
  | rdreg (r : BitVec 4)
  | symCtrl (b : Byte)
  | symDelim (b : Byte)
  | symInval (b : Byte)
  | symDigit0
  | symDigit1
  | symDigit2
  | symDigit3
  | symDigit4
  | symDigit5
  | symDigit6
  | symDigit7
  | symDigit8
  | symDigit9
  | symDigit10
  | symDigit11
  | symDigit12
  | symDigit13
  | symDigit14
  | symDigit15
  | symDigit16
  | symDigit17
  | symDigit18
  | symDigit19
  | symDigit20
  | symDigit21
  | symDigit22
  | symDigit23
  | symDigit24
  | symDigit25
  | symDigit26
  | symDigit27
  | symDigit28
  | symDigit29
  | symDigit30
  | symDigit31
  | symDigit32
  | symDigit33
  | symDigit34
  | symDigit35
  | symDigit36
  | symDigit37
  | symDigit38
  | symDigit39
  | symDigit40
  | symDigit41
  | symDigit42
  | symDigit43
  | symDigit44
  | symDigit45
  | symDigit46
  | symDigit47
  | symDigit48
  | symDigit49
  | symDigit50
  | symDigit51
  | symDigit52
  | symDigit53
  | symDigit54
  | symDigit55
  | symDigit56
deriving DecidableEq, Repr

/-- The instructions `SYM.DIGIT_0` .. `SYM.DIGIT_56`, in the order of their symbol values. -/
def digitInstrs : List Instr :=
  [.symDigit0, .symDigit1, .symDigit2, .symDigit3, .symDigit4, .symDigit5, .symDigit6, .symDigit7,
   .symDigit8, .symDigit9, .symDigit10, .symDigit11, .symDigit12, .symDigit13, .symDigit14, .symDigit15,
   .symDigit16, .symDigit17, .symDigit18, .symDigit19, .symDigit20, .symDigit21, .symDigit22, .symDigit23,
   .symDigit24, .symDigit25, .symDigit26, .symDigit27, .symDigit28, .symDigit29, .symDigit30, .symDigit31,
   .symDigit32, .symDigit33, .symDigit34, .symDigit35, .symDigit36, .symDigit37, .symDigit38, .symDigit39,
   .symDigit40, .symDigit41, .symDigit42, .symDigit43, .symDigit44, .symDigit45, .symDigit46, .symDigit47,
   .symDigit48, .symDigit49, .symDigit50, .symDigit51, .symDigit52, .symDigit53, .symDigit54, .symDigit55,
   .symDigit56]

end Sys2Proof
end

