-- ==== Sys2Proof/Decode.lean ====
section
/-! DEFINITION. The decoder of the two kinds of word (30_encoding.md R70 to R74, R79), total on every word and
refusing by name, and the encoder written from the same tables. -/

namespace Sys2Proof

open Sys2Proof.Machine

/-- Why a word is no instruction. Each reason for a command word is an illegal command (R233). -/
inductive DecodeError where
  /-- `op` is 0xC..0xF (R74). -/
  | reservedOpcode (op : BitVec 4)
  /-- A bit that the format shows as 0 is 1 (R73). -/
  | reservedField (cw : CmdWord)
  /-- RDREG of a register 5..15 (R73, R233). -/
  | reservedRegister (r : BitVec 4)
  /-- The classifier gave a symbol value that the opcode table has no row for. This cannot happen with an
  alphabet of 57 symbols (R108). -/
  | noSuchSymbol (v : Nat)
deriving DecidableEq, Repr

/-- `i`, where the reserved fields of the command word's format are zero (R73). -/
def ifPlain (plain : Bool) (cw : CmdWord) (i : Instr) : Except DecodeError Instr :=
  if plain then .ok i else .error (.reservedField cw)

/-- The command that `(CW, DIN)` stands for (R70 to R74). -/
def decodeCommand (cw : CmdWord) (din : DataWord) : Except DecodeError Instr :=
  match (opField cw).toNat with
  | 0x0 => ifPlain (plainZ cw) cw .nop
  | 0x1 => ifPlain (plainZ cw) cw .rst
  | 0x2 => ifPlain (plainZ cw) cw .dinit
  | 0x3 => ifPlain (plainZ cw) cw .einit
  | 0x4 => ifPlain (plainB cw) cw (.cls (bField cw))
  | 0x5 => ifPlain (plainZ cw) cw (.enc8 din)
  | 0x6 => ifPlain (plainT cw) cw (.enct (nField cw) din)
  | 0x7 => ifPlain (plainZ cw) cw (.enclen din)
  | 0x8 => ifPlain (plainZ cw) cw (.decmax din)
  | 0x9 => ifPlain (plainB cw) cw (.decb (bField cw))
  | 0xA => ifPlain (plainZ cw) cw .flush
  | 0xB =>
    if (rField cw).toNat < 5 then ifPlain (plainR cw) cw (.rdreg (rField cw))
    else .error (.reservedRegister (rField cw))
  | _ => .error (.reservedOpcode (opField cw))

/-- The operation that an input byte of the text selects by its class (R79). -/
def decodeByte (b : Byte) : Except DecodeError Instr :=
  match classify b with
  | .digit v =>
    match digitInstrs[v]? with
    | some i => .ok i
    | none => .error (.noSuchSymbol v)
  | .delimiter => .ok (.symDelim b)
  | .control => .ok (.symCtrl b)
  | .invalid => .ok (.symInval b)

/-- The instruction a word stands for. -/
def decode : PortWord → Except DecodeError Instr
  | .command cw din => decodeCommand cw din
  | .textByte b => decodeByte b

/-- The word of a well-formed instruction (R71, R72, R79). `DIN` is 0 where the command ignores it (R70). -/
def encode : Instr → PortWord
  | .nop => .command (formatZ 0x0) 0
  | .rst => .command (formatZ 0x1) 0
  | .dinit => .command (formatZ 0x2) 0
  | .einit => .command (formatZ 0x3) 0
  | .cls b => .command (formatB 0x4 b) 0
  | .enc8 x => .command (formatZ 0x5) x
  | .enct n din => .command (formatT 0x6 n) din
  | .enclen x => .command (formatZ 0x7) x
  | .decmax x => .command (formatZ 0x8) x
  | .decb b => .command (formatB 0x9 b) 0
  | .flush => .command (formatZ 0xA) 0
  | .rdreg r => .command (formatR 0xB r) 0
  | .symCtrl b => .textByte b
  | .symDelim b => .textByte b
  | .symInval b => .textByte b
  | .symDigit0 => .textByte (symbolByte 0)
  | .symDigit1 => .textByte (symbolByte 1)
  | .symDigit2 => .textByte (symbolByte 2)
  | .symDigit3 => .textByte (symbolByte 3)
  | .symDigit4 => .textByte (symbolByte 4)
  | .symDigit5 => .textByte (symbolByte 5)
  | .symDigit6 => .textByte (symbolByte 6)
  | .symDigit7 => .textByte (symbolByte 7)
  | .symDigit8 => .textByte (symbolByte 8)
  | .symDigit9 => .textByte (symbolByte 9)
  | .symDigit10 => .textByte (symbolByte 10)
  | .symDigit11 => .textByte (symbolByte 11)
  | .symDigit12 => .textByte (symbolByte 12)
  | .symDigit13 => .textByte (symbolByte 13)
  | .symDigit14 => .textByte (symbolByte 14)
  | .symDigit15 => .textByte (symbolByte 15)
  | .symDigit16 => .textByte (symbolByte 16)
  | .symDigit17 => .textByte (symbolByte 17)
  | .symDigit18 => .textByte (symbolByte 18)
  | .symDigit19 => .textByte (symbolByte 19)
  | .symDigit20 => .textByte (symbolByte 20)
  | .symDigit21 => .textByte (symbolByte 21)
  | .symDigit22 => .textByte (symbolByte 22)
  | .symDigit23 => .textByte (symbolByte 23)
  | .symDigit24 => .textByte (symbolByte 24)
  | .symDigit25 => .textByte (symbolByte 25)
  | .symDigit26 => .textByte (symbolByte 26)
  | .symDigit27 => .textByte (symbolByte 27)
  | .symDigit28 => .textByte (symbolByte 28)
  | .symDigit29 => .textByte (symbolByte 29)
  | .symDigit30 => .textByte (symbolByte 30)
  | .symDigit31 => .textByte (symbolByte 31)
  | .symDigit32 => .textByte (symbolByte 32)
  | .symDigit33 => .textByte (symbolByte 33)
  | .symDigit34 => .textByte (symbolByte 34)
  | .symDigit35 => .textByte (symbolByte 35)
  | .symDigit36 => .textByte (symbolByte 36)
  | .symDigit37 => .textByte (symbolByte 37)
  | .symDigit38 => .textByte (symbolByte 38)
  | .symDigit39 => .textByte (symbolByte 39)
  | .symDigit40 => .textByte (symbolByte 40)
  | .symDigit41 => .textByte (symbolByte 41)
  | .symDigit42 => .textByte (symbolByte 42)
  | .symDigit43 => .textByte (symbolByte 43)
  | .symDigit44 => .textByte (symbolByte 44)
  | .symDigit45 => .textByte (symbolByte 45)
  | .symDigit46 => .textByte (symbolByte 46)
  | .symDigit47 => .textByte (symbolByte 47)
  | .symDigit48 => .textByte (symbolByte 48)
  | .symDigit49 => .textByte (symbolByte 49)
  | .symDigit50 => .textByte (symbolByte 50)
  | .symDigit51 => .textByte (symbolByte 51)
  | .symDigit52 => .textByte (symbolByte 52)
  | .symDigit53 => .textByte (symbolByte 53)
  | .symDigit54 => .textByte (symbolByte 54)
  | .symDigit55 => .textByte (symbolByte 55)
  | .symDigit56 => .textByte (symbolByte 56)

/-- The word that the number `w` of `nbits` bits stands for: up to 8 bits an input byte, else a command with `CW` at bits
15..0 and `DIN` at bits 79..16. The table's match and mask give the numbering of a byte and of `CW` alone (R79). How the
pair `(CW, DIN)` is written as one number, and that the width tells a byte from a command, the spec leaves open: DESIGN
CHOICE, log entry 14. -/
def tableWord (nbits w : Nat) : PortWord :=
  if nbits ≤ 8 then .textByte (BitVec.ofNat 8 w)
  else .command (BitVec.ofNat 16 w) (BitVec.ofNat 64 (w / 2 ^ 16))

/-- The instruction that the decoder reads from the word whose bits are `w`. -/
def decodeTableWord (nbits w : Nat) : Option Instr :=
  match decode (tableWord nbits w) with
  | .ok i => some i
  | .error _ => none

end Sys2Proof
end

