-- ==== Sys2Proof/Machine/State.lean ====
section
/-! DEFINITION. The state of the block as plain data (10_state.md R20 to R30, R35), the response record
(30_encoding.md R76, R77), and the reasons a step can stop. -/

namespace Sys2Proof.Machine

open Sys2Proof

/-- The status of a response (R77). The codes 5 and 6 are never returned and have no constructor. -/
inductive Status where
  | ok
  | control
  | invalid
  | overflow
  | truncated
  | illegal
deriving DecidableEq, Repr

/-- The five synchronous exceptions (60_exceptions.md R250). -/
inductive Exception where
  /-- DECB of a Control byte (R251). -/
  | control
  /-- DECB of an Invalid byte (R252). -/
  | invalid
  /-- A group whose digits encode no value of its byte length (R253). -/
  | overflow
  /-- FLUSH with 1, 4 or 8 pending digits (R254). -/
  | truncated
  /-- A word that is none of the twelve commands (R255). -/
  | illegal
deriving DecidableEq, Repr

/-- The response record `(st, acc, out, val)` of a command (R76). -/
structure Response where
  /-- The status. -/
  st : Status
  /-- Whether the command was carried out. -/
  acc : Bool
  /-- The output bytes, 0 to 12 of them. -/
  out : List Byte
  /-- The value. -/
  val : ValWord
deriving DecidableEq, Repr

/-- The state. The first seven fields are the tuple of R20; `port` and `resp` are the model's own, the two ends
of the command port (assumptions 2 and 3). -/
structure State where
  /-- `PEND[0..9]`: the pending symbol values, `i < CNT` (R21, R23). -/
  pend : Vector SymWord 10
  /-- `CNT`: the number of pending symbols, 0..10 (R22). -/
  cnt : BitVec 4
  /-- `CONSUMED`: the input bytes consumed, modulo 2^64 (R25). -/
  consumed : BitVec 64
  /-- `PRODUCED`: the decoded bytes output, modulo 2^64 (R26). -/
  produced : BitVec 64
  /-- `ERR`: the sticky flags CTL, INV, OVF, TRU, ILL, bits 0 to 4 (R27). -/
  err : BitVec 5
  /-- `LAST`: the status code of the latest DECB or FLUSH (R28). -/
  last : BitVec 3
  /-- `GCNT`: the groups on the current text line, 0..8 (R29). -/
  gcnt : BitVec 4
  /-- The words the host has presented and the block has not yet taken, oldest first (R58). -/
  port : List PortWord
  /-- The response to the latest command; `none` while no command has been answered yet (R58, R76, R280). -/
  resp : Option Response
deriving DecidableEq, Repr

/-- The reasons for a fault. -/
inductive Fault where
  /-- Raised by FLUSH alone, when `CNT` is 11..15. The spec says these values never occur (R22), `PEND` has no
  register of that number (R21), and TDEC is defined for 1..10 symbols only (R152). Safe: it stops where the
  spec gives no effect, and no state that meets `State.inv` reaches it (assumption 7). -/
  | pendingBeyondBuffer
deriving DecidableEq, Repr

/-- The reasons for a refusal. -/
inductive Refusal where
  /-- An instruction that has no meaning yet. Raised by an arm of `exec` only; no arm of this model raises
  it. Safe. -/
  | notModelled (mnemonic : String)
deriving DecidableEq, Repr

/-- What a meaning answers. -/
abbrev Result := Host.Outcome State Fault Refusal

/-- The state after hardware reset (R35, R280). `PEND` is unspecified there: zero is a DESIGN CHOICE, unsafe
(assumption 1). Nothing has been presented to the block and nothing answered (assumptions 2 and 3). -/
def State.reset : State where
  pend := Vector.replicate 10 0
  cnt := 0
  consumed := 0
  produced := 0
  err := 0
  last := 0
  gcnt := 0
  port := []
  resp := none

end Sys2Proof.Machine
end

