-- ==== Sys2Proof/Machine/Flags.lean ====
section
/-! DEFINITION. Status codes (30_encoding.md R77), the sticky flags `ERR` (10_state.md R27) and the fields of
the STATUS register (R30). -/

namespace Sys2Proof.Machine

open Sys2Proof

/-- The 3-bit code of a status (R77). -/
def statusCode : Status → BitVec 3
  | .ok => 0
  | .control => 1
  | .invalid => 2
  | .overflow => 3
  | .truncated => 4
  | .illegal => 7

/-- The status that reports an exception (R250). -/
def exceptionStatus : Exception → Status
  | .control => .control
  | .invalid => .invalid
  | .overflow => .overflow
  | .truncated => .truncated
  | .illegal => .illegal

/-- The sticky flag of an exception (R27, R251 to R255). -/
def exceptionFlag : Exception → BitVec 5
  | .control => 0b00001
  | .invalid => 0b00010
  | .overflow => 0b00100
  | .truncated => 0b01000
  | .illegal => 0b10000

/-- `acc` of the response to an exception: 0 for CONTROL, INVALID and ILLEGAL, 1 for OVERFLOW and TRUNCATED (R258). -/
def exceptionAcc : Exception → Bool
  | .control => false
  | .invalid => false
  | .overflow => true
  | .truncated => true
  | .illegal => false

/-- `LAST` after an exception: its code for the four decoder reasons, unchanged for ILLEGAL (R258, R28). -/
def exceptionLast (e : Exception) (last : BitVec 3) : BitVec 3 :=
  match e with
  | .control => statusCode .control
  | .invalid => statusCode .invalid
  | .overflow => statusCode .overflow
  | .truncated => statusCode .truncated
  | .illegal => last

/-- `ERR` with the flag of `e` set (R27). -/
def setFlag (e : Exception) (err : BitVec 5) : BitVec 5 := err ||| exceptionFlag e

/-- `ERR` with `ERR[3:0]` cleared and `ERR[4]` kept (R191). -/
def clearDecoderFlags (err : BitVec 5) : BitVec 5 := err &&& 0b10000

/-- STATUS: `[2:0]` LAST, `[7:3]` ERR, `[11:8]` CNT, `[15:12]` GCNT (R30, R232). -/
def statusWord (s : State) : BitVec 16 := s.gcnt ++ s.cnt ++ s.err ++ s.last

end Sys2Proof.Machine
end

