-- ==== Sys2Proof/Machine/Radix.lean ====
section
/-! DEFINITION. The radix codec: full groups (41_radix_codec.md) and tails (42_tail.md). Pure functions over the
natural numbers, as R128 allows, driven by the table `BASE` (R130). -/

namespace Sys2Proof.Machine

open Sys2Proof

/-- The positional digits of `x` in the given bases, by successive division (R120). -/
def digitsIn : List Nat → Nat → List Nat
  | [], _ => []
  | b :: bs, x => x % b :: digitsIn bs (x / b)

/-- `digits(x, k)`: the `k` lowest positional digits of `x` (R120). -/
def digits (x k : Nat) : List Nat := digitsIn (base.take k) x

/-- The symbol values of the digits above one of symbol value `prev` (R122). -/
def symbolsAfter (prev : Nat) : List Nat → List Nat
  | [] => []
  | d :: ds =>
    let v := (config.offset prev + d) % nsym
    v :: symbolsAfter v ds

/-- `symbols(d)`: from positional digits to symbol values (R122). -/
def symbols : List Nat → List Nat
  | [] => []
  | d :: ds => d :: symbolsAfter d ds

/-- The positional digits of the symbols above one of symbol value `prev`: `(s - offset prev) mod 57` (R124). -/
def digitsAfter (prev : Nat) : List Nat → List Nat
  | [] => []
  | v :: vs => (v + nsym - config.offset prev % nsym) % nsym :: digitsAfter v vs

/-- `digits_of_symbols(s)`: from symbol values to positional digits (R124). -/
def digitsOfSymbols : List Nat → List Nat
  | [] => []
  | v :: vs => v :: digitsAfter v vs

/-- `sum of d[i] * MAG[i]` (R127, R152). -/
def groupValue (d : List Nat) : Nat := (List.zipWith (· * ·) d mags).sum

/-- Some digit is out of range for its position, `d[i] >= BASE[i]` (R126). -/
def outOfRange (d : List Nat) : Bool := (d.zip base).any fun p => decide (p.2 ≤ p.1)

/-- `GENC(x)`: the eleven symbol values of a full group (R125). -/
def genc (x : Nat) : List Nat := symbols (digits x groupSymbols)

/-- The result of decoding a full group (R127). -/
inductive GroupResult where
  | value (x : Nat)
  | overflow
deriving DecidableEq, Repr

/-- `GDEC(s[0..10])`, with the range test and the quick check on the top digit (R126, R127). -/
def gdec (s : List Nat) : GroupResult :=
  let d := digitsOfSymbols s
  if outOfRange d then .overflow
  else
    let acc := groupValue (d.take 10)
    let top := d.getD 10 0
    if top = dmax10 ∧ lim10 < acc then .overflow
    else .value (acc + top * mag 10)

/-- `TENC(n, v)`: the symbol values of a tail of `n` bytes (R150). -/
def tenc (n v : Nat) : List Nat := symbols (digits v (digitsOf n))

/-- The result of decoding a partial group (R152). -/
inductive TailResult where
  | value (n v : Nat)
  | overflow
  | truncated
deriving DecidableEq, Repr

/-- `TDEC(s[0..k-1])`: the count test, the range test, then the fit test (R152, R154, R155). -/
def tdec (s : List Nat) : TailResult :=
  match bytesOf s.length with
  | none => .truncated
  | some n =>
    let d := digitsOfSymbols s
    if outOfRange d then .overflow
    else if 256 ^ n ≤ groupValue d then .overflow
    else .value n (groupValue d)

/-- The text of a group: the symbols of its symbol values, in order (R125, R54). -/
def symbolText (s : List Nat) : List Byte := s.map symbolByte

end Sys2Proof.Machine
end

