-- ==== Sys2Proof/Machine/Ops.lean ====
section
/-! DEFINITION. The named operations over the registers and the two ends of the command port, the response, the entry
of an exception, and the shared operations of the framer and of the decoder. -/

namespace Sys2Proof.Machine

open Sys2Proof

/-! ### Register writes -/

/-- `s` with `PEND` written. -/
def State.withPend (s : State) (v : Vector SymWord 10) : State := { s with pend := v }

/-- `s` with `CNT` written. -/
def State.withCnt (s : State) (v : BitVec 4) : State := { s with cnt := v }

/-- `s` with `CONSUMED` written. -/
def State.withConsumed (s : State) (v : BitVec 64) : State := { s with consumed := v }

/-- `s` with `PRODUCED` written. -/
def State.withProduced (s : State) (v : BitVec 64) : State := { s with produced := v }

/-- `s` with `ERR` written. -/
def State.withErr (s : State) (v : BitVec 5) : State := { s with err := v }

/-- `s` with `LAST` written. -/
def State.withLast (s : State) (v : BitVec 3) : State := { s with last := v }

/-- `s` with `GCNT` written. -/
def State.withGcnt (s : State) (v : BitVec 4) : State := { s with gcnt := v }

/-- `s` with other words waiting on the command port. -/
def State.withPort (s : State) (v : List PortWord) : State := { s with port := v }

/-- `s` with another latest response. -/
def State.withResp (s : State) (v : Option Response) : State := { s with resp := v }

/-! ### Responding, and taking an exception -/

/-- `respond(st, acc, out, val)` (R14, R76). -/
def respond (st : Status) (acc : Bool) (out : List Byte) (val : ValWord) (s : State) : State :=
  s.withResp (some ⟨st, acc, out, val⟩)

/-- The response of a command that was carried out: `respond(st = OK, acc = 1, out, val)`. -/
def respondOk (out : List Byte) (val : ValWord) (s : State) : State := respond .ok true out val s

/-- Taking an exception (R258): set its sticky flag, write `LAST` for the four decoder reasons, and respond with its
code, `acc`, no output and value 0. Nothing is saved and nothing is entered; there is no return operation, since the
block has no handler context to leave (R260). -/
def raise (e : Exception) (s : State) : State :=
  respond (exceptionStatus e) (exceptionAcc e) [] 0
    ((s.withErr (setFlag e s.err)).withLast (exceptionLast e s.last))

/-! ### The command port -/

/-- The word the block takes next, and the state in which it has been taken (R58). -/
def fetch (s : State) : Option (PortWord × State) :=
  match s.port with
  | [] => none
  | p :: rest => some (p, s.withPort rest)

/-- `s` with a word presented ahead of those that wait. -/
def present (p : PortWord) (s : State) : State := s.withPort (p :: s.port)

/-! ### The framer -/

/-- The encode path's shared step (R171, R172): the line break that is due before this group, the group, and the
count of groups on the line. -/
def emitGroup (symbolValues : List Nat) (s : State) : State :=
  let full := s.gcnt == BitVec.ofNat 4 lineGroups
  let pre := if full then [config.lineBreak] else []
  let g := if full then 0 else s.gcnt
  respondOk (pre ++ symbolText symbolValues) 0 (s.withGcnt (g + 1))

/-- `encoded_length(x)` over the naturals (R174). -/
def encodedLength (x : Nat) : Nat :=
  let raw := groupSymbols * (x / blockBytes) + digitsOf (x % blockBytes)
  let breaks := if raw = 0 then 0 else (raw - 1) / lineChars
  raw + breaks

/-! ### The decoder -/

/-- `[PEND[0], ..., PEND[CNT-1]]` (R197). -/
def pendingSymbols (s : State) : List Nat := (s.pend.toList.take s.cnt.toNat).map BitVec.toNat

/-- The start of a decode stream (R191). -/
def startStream (s : State) : State :=
  ((((s.withCnt 0).withConsumed 0).withProduced 0).withErr (clearDecoderFlags s.err)).withLast (statusCode .ok)

/-- One input byte consumed: `CONSUMED <- trunc_64(CONSUMED + 1)` (R192, R25). -/
def consumeByte (s : State) : State := s.withConsumed (s.consumed + 1)

/-- `n` bytes decoded: `PRODUCED <- trunc_64(PRODUCED + n)`, `LAST <- OK`, and the bytes as output (R192, R197). -/
def outputBytes (n v : Nat) (s : State) : State :=
  respondOk (bytesLe n v) 0 ((s.withProduced (s.produced + BitVec.ofNat 64 n)).withLast (statusCode .ok))

/-- A decoder command that puts out nothing: `LAST <- OK` and the plain response (R192, R197). -/
def decoderQuiet (s : State) : State := respondOk [] 0 (s.withLast (statusCode .ok))

/-- A Delimiter: consumed and skipped at every `CNT` (R192). -/
def skipDelimiter (s : State) : State := decoderQuiet (consumeByte s)

/-- A Digit that does not complete the group: `PEND[CNT] <- v`, `CNT <- CNT + 1` (R192). -/
def appendSymbol (v : Nat) (s : State) : State :=
  decoderQuiet
    (((consumeByte s).withPend (s.pend.setIfInBounds s.cnt.toNat (BitVec.ofNat 6 v))).withCnt (s.cnt + 1))

/-- The eleventh symbol `v`: the group is decoded and the buffer emptied, whatever comes out (R192). -/
def completeGroup (v : Nat) (s : State) : State :=
  let t := (consumeByte s).withCnt 0
  match gdec (s.pend.toList.map BitVec.toNat ++ [v]) with
  | .overflow => raise .overflow t
  | .value x => outputBytes blockBytes x t

/-- A Digit of symbol value `v` (R192). -/
def acceptDigit (v : Nat) (s : State) : State :=
  if s.cnt.toNat ≤ 9 then appendSymbol v s else completeGroup v s

/-- The end of the stream: the pending symbols are drained and the buffer emptied (R197). `CNT` of 11..15 has no
effect in the spec (R22), and faults. -/
def drain (s : State) : Result :=
  let t := s.withCnt 0
  if s.cnt.toNat = 0 then .next (decoderQuiet t)
  else if 10 < s.cnt.toNat then .fault .pendingBeyondBuffer
  else
    match tdec (pendingSymbols s) with
    | .truncated => .next (raise .truncated t)
    | .overflow => .next (raise .overflow t)
    | .value n v => .next (outputBytes n v t)

/-- `decoded_max_length(x)` over the naturals (R199). -/
def decodedMaxLength (x : Nat) : Nat := blockBytes * (x / groupSymbols) + bytesUp (x % groupSymbols)

/-! ### The registers that RDREG reads -/

/-- PENDV: the sum over i = 0..9 of `(PEND[i] if i < CNT else 0) * 2^(6i)` (R30, R232). -/
def pendValue (s : State) : Nat :=
  ((List.range 10).map fun i =>
    (if i < s.cnt.toNat then (s.pend.toList.getD i 0).toNat else 0) * 2 ^ (6 * i)).sum

/-- The constant of the ID register (R30). -/
def idValue : BitVec 64 := 0x0000000042353701

/-- The content of a register, zero-extended to 65 bits; `none` for the registers 5..15, which do not exist
(R30, R232). -/
def readRegister (r : BitVec 4) (s : State) : Option ValWord :=
  match r.toNat with
  | 0 => some ((statusWord s).zeroExtend 65)
  | 1 => some (s.consumed.zeroExtend 65)
  | 2 => some (s.produced.zeroExtend 65)
  | 3 => some (BitVec.ofNat 65 (pendValue s))
  | 4 => some (idValue.zeroExtend 65)
  | _ => none

end Sys2Proof.Machine
end

