-- ==== Sys2Proof/Machine/Classifier.lean ====
section
/-! DEFINITION. The command CLS (40_classifier.md). -/

namespace Sys2Proof.Machine

open Sys2Proof

/-- CLS b (R107): the entry of the byte in `CLASS`, zero-extended. -/
def execCls (b : Byte) (s : State) : Result := .next (respondOk [] ((classEntry b).zeroExtend 65) s)

end Sys2Proof.Machine
end

