-- ==== Sys2Proof/Machine/Decoder.lean ====
section
/-! DEFINITION. The decode path: DINIT, DECB, FLUSH and DECMAX (44_decoder.md). -/

namespace Sys2Proof.Machine

open Sys2Proof

/-- DINIT (R191): the start of a decode stream. -/
def execDinit (s : State) : Result := .next (respondOk [] 0 (startStream s))

/-- DECB b (R192): one input byte, by its class. -/
def execDecb (b : Byte) (s : State) : Result :=
  match classify b with
  | .control => .next (raise .control s)
  | .invalid => .next (raise .invalid s)
  | .delimiter => .next (skipDelimiter s)
  | .digit v => .next (acceptDigit v s)

/-- FLUSH (R197): the end of the stream. -/
def execFlush (s : State) : Result := drain s

/-- DECMAX x (R199): the bound on the decoded length. -/
def execDecmax (x : DataWord) (s : State) : Result :=
  .next (respondOk [] (BitVec.ofNat 65 (decodedMaxLength x.toNat)) s)

end Sys2Proof.Machine
end

