-- ==== Sys2Proof/Machine/Framer.lean ====
section
/-! DEFINITION. The encode path: EINIT, ENC8, ENCT and ENCLEN (43_framer.md). -/

namespace Sys2Proof.Machine

open Sys2Proof

/-- EINIT (R170): the start of a message. -/
def execEinit (s : State) : Result := .next (respondOk [] 0 (s.withGcnt 0))

/-- ENC8 x (R171): one full block. -/
def execEnc8 (x : DataWord) (s : State) : Result := .next (emitGroup (genc x.toNat) s)

/-- ENCT n, v (R172): a tail of `n` bytes; nothing for `n = 0`. -/
def execEnct (n : BitVec 3) (din : DataWord) (s : State) : Result :=
  if n.toNat = 0 then .next (respondOk [] 0 s)
  else .next (emitGroup (tenc n.toNat (tailOperand n din)) s)

/-- ENCLEN x (R174): the exact encoded length, in 65 bits. -/
def execEnclen (x : DataWord) (s : State) : Result :=
  .next (respondOk [] (BitVec.ofNat 65 (encodedLength x.toNat)) s)

end Sys2Proof.Machine
end

