-- ==== Sys2Proof/Machine/InputByte.lean ====
section
/-! DEFINITION. The input bytes of the decoder's text (30_encoding.md R79): each is one arm of DECB (44_decoder.md
R192), selected by the byte's class. -/

namespace Sys2Proof.Machine

open Sys2Proof

/-- SYM.CTRL: a Control byte stops the decoder, not consumed (R192, R251). The byte itself has no further effect. -/
def execSymCtrl (_b : Byte) (s : State) : Result := .next (raise .control s)

/-- SYM.DELIM: a Delimiter byte is consumed and skipped (R192). -/
def execSymDelim (_b : Byte) (s : State) : Result := .next (skipDelimiter s)

/-- SYM.INVAL: an Invalid byte stops the decoder, not consumed (R192, R252). -/
def execSymInval (_b : Byte) (s : State) : Result := .next (raise .invalid s)

/-! SYM.DIGIT_v: a Digit byte of symbol value v (R192), for v = 0..56. -/

def execSymDigit0 (s : State) : Result := .next (acceptDigit 0 s)
def execSymDigit1 (s : State) : Result := .next (acceptDigit 1 s)
def execSymDigit2 (s : State) : Result := .next (acceptDigit 2 s)
def execSymDigit3 (s : State) : Result := .next (acceptDigit 3 s)
def execSymDigit4 (s : State) : Result := .next (acceptDigit 4 s)
def execSymDigit5 (s : State) : Result := .next (acceptDigit 5 s)
def execSymDigit6 (s : State) : Result := .next (acceptDigit 6 s)
def execSymDigit7 (s : State) : Result := .next (acceptDigit 7 s)
def execSymDigit8 (s : State) : Result := .next (acceptDigit 8 s)
def execSymDigit9 (s : State) : Result := .next (acceptDigit 9 s)
def execSymDigit10 (s : State) : Result := .next (acceptDigit 10 s)
def execSymDigit11 (s : State) : Result := .next (acceptDigit 11 s)
def execSymDigit12 (s : State) : Result := .next (acceptDigit 12 s)
def execSymDigit13 (s : State) : Result := .next (acceptDigit 13 s)
def execSymDigit14 (s : State) : Result := .next (acceptDigit 14 s)
def execSymDigit15 (s : State) : Result := .next (acceptDigit 15 s)
def execSymDigit16 (s : State) : Result := .next (acceptDigit 16 s)
def execSymDigit17 (s : State) : Result := .next (acceptDigit 17 s)
def execSymDigit18 (s : State) : Result := .next (acceptDigit 18 s)
def execSymDigit19 (s : State) : Result := .next (acceptDigit 19 s)
def execSymDigit20 (s : State) : Result := .next (acceptDigit 20 s)
def execSymDigit21 (s : State) : Result := .next (acceptDigit 21 s)
def execSymDigit22 (s : State) : Result := .next (acceptDigit 22 s)
def execSymDigit23 (s : State) : Result := .next (acceptDigit 23 s)
def execSymDigit24 (s : State) : Result := .next (acceptDigit 24 s)
def execSymDigit25 (s : State) : Result := .next (acceptDigit 25 s)
def execSymDigit26 (s : State) : Result := .next (acceptDigit 26 s)
def execSymDigit27 (s : State) : Result := .next (acceptDigit 27 s)
def execSymDigit28 (s : State) : Result := .next (acceptDigit 28 s)
def execSymDigit29 (s : State) : Result := .next (acceptDigit 29 s)
def execSymDigit30 (s : State) : Result := .next (acceptDigit 30 s)
def execSymDigit31 (s : State) : Result := .next (acceptDigit 31 s)
def execSymDigit32 (s : State) : Result := .next (acceptDigit 32 s)
def execSymDigit33 (s : State) : Result := .next (acceptDigit 33 s)
def execSymDigit34 (s : State) : Result := .next (acceptDigit 34 s)
def execSymDigit35 (s : State) : Result := .next (acceptDigit 35 s)
def execSymDigit36 (s : State) : Result := .next (acceptDigit 36 s)
def execSymDigit37 (s : State) : Result := .next (acceptDigit 37 s)
def execSymDigit38 (s : State) : Result := .next (acceptDigit 38 s)
def execSymDigit39 (s : State) : Result := .next (acceptDigit 39 s)
def execSymDigit40 (s : State) : Result := .next (acceptDigit 40 s)
def execSymDigit41 (s : State) : Result := .next (acceptDigit 41 s)
def execSymDigit42 (s : State) : Result := .next (acceptDigit 42 s)
def execSymDigit43 (s : State) : Result := .next (acceptDigit 43 s)
def execSymDigit44 (s : State) : Result := .next (acceptDigit 44 s)
def execSymDigit45 (s : State) : Result := .next (acceptDigit 45 s)
def execSymDigit46 (s : State) : Result := .next (acceptDigit 46 s)
def execSymDigit47 (s : State) : Result := .next (acceptDigit 47 s)
def execSymDigit48 (s : State) : Result := .next (acceptDigit 48 s)
def execSymDigit49 (s : State) : Result := .next (acceptDigit 49 s)
def execSymDigit50 (s : State) : Result := .next (acceptDigit 50 s)
def execSymDigit51 (s : State) : Result := .next (acceptDigit 51 s)
def execSymDigit52 (s : State) : Result := .next (acceptDigit 52 s)
def execSymDigit53 (s : State) : Result := .next (acceptDigit 53 s)
def execSymDigit54 (s : State) : Result := .next (acceptDigit 54 s)
def execSymDigit55 (s : State) : Result := .next (acceptDigit 55 s)
def execSymDigit56 (s : State) : Result := .next (acceptDigit 56 s)

end Sys2Proof.Machine
end

