-- ==== Sys2Proof/Machine/System.lean ====
section
/-! DEFINITION. The system commands NOP, RST and RDREG and the illegal command (45_system.md). -/

namespace Sys2Proof.Machine

open Sys2Proof

/-- NOP (R230): does nothing but respond. -/
def execNop (s : State) : Result := .next (respondOk [] 0 s)

/-- RST (R231): the reset state, but for `PEND`, which is not written. -/
def execRst (s : State) : Result :=
  .next (respondOk [] 0
    ((((((s.withCnt 0).withConsumed 0).withProduced 0).withErr 0).withLast (statusCode .ok)).withGcnt 0))

/-- RDREG r (R232): the register's content; an illegal command for the registers 5..15 (R233). -/
def execRdreg (r : BitVec 4) (s : State) : Result :=
  match readRegister r s with
  | some v => .next (respondOk [] v s)
  | none => .next (raise .illegal s)

/-- An illegal command word (R233): `ERR[4]` set, nothing else changed. -/
def execIllegal (s : State) : Result := .next (raise .illegal s)

end Sys2Proof.Machine
end

