-- ==== Sys2Proof/Machine/Dispatch.lean ====
section
/-! DEFINITION. The dispatch: one arm for every constructor of Instr. -/

namespace Sys2Proof.Machine

open Sys2Proof

def exec (i : Instr) (s : State) : Host.Outcome State Fault Refusal :=
  match i with
  | .nop => Sys2Proof.Machine.execNop s
  | .rst => Sys2Proof.Machine.execRst s
  | .dinit => Sys2Proof.Machine.execDinit s
  | .einit => Sys2Proof.Machine.execEinit s
  | .cls b => Sys2Proof.Machine.execCls b s
  | .enc8 x => Sys2Proof.Machine.execEnc8 x s
  | .enct n din => Sys2Proof.Machine.execEnct n din s
  | .enclen x => Sys2Proof.Machine.execEnclen x s
  | .decmax x => Sys2Proof.Machine.execDecmax x s
  | .decb b => Sys2Proof.Machine.execDecb b s
  | .flush => Sys2Proof.Machine.execFlush s
  | .rdreg r => Sys2Proof.Machine.execRdreg r s
  | .symCtrl b => Sys2Proof.Machine.execSymCtrl b s
  | .symDelim b => Sys2Proof.Machine.execSymDelim b s
  | .symInval b => Sys2Proof.Machine.execSymInval b s
  | .symDigit0 => Sys2Proof.Machine.execSymDigit0 s
  | .symDigit1 => Sys2Proof.Machine.execSymDigit1 s
  | .symDigit2 => Sys2Proof.Machine.execSymDigit2 s
  | .symDigit3 => Sys2Proof.Machine.execSymDigit3 s
  | .symDigit4 => Sys2Proof.Machine.execSymDigit4 s
  | .symDigit5 => Sys2Proof.Machine.execSymDigit5 s
  | .symDigit6 => Sys2Proof.Machine.execSymDigit6 s
  | .symDigit7 => Sys2Proof.Machine.execSymDigit7 s
  | .symDigit8 => Sys2Proof.Machine.execSymDigit8 s
  | .symDigit9 => Sys2Proof.Machine.execSymDigit9 s
  | .symDigit10 => Sys2Proof.Machine.execSymDigit10 s
  | .symDigit11 => Sys2Proof.Machine.execSymDigit11 s
  | .symDigit12 => Sys2Proof.Machine.execSymDigit12 s
  | .symDigit13 => Sys2Proof.Machine.execSymDigit13 s
  | .symDigit14 => Sys2Proof.Machine.execSymDigit14 s
  | .symDigit15 => Sys2Proof.Machine.execSymDigit15 s
  | .symDigit16 => Sys2Proof.Machine.execSymDigit16 s
  | .symDigit17 => Sys2Proof.Machine.execSymDigit17 s
  | .symDigit18 => Sys2Proof.Machine.execSymDigit18 s
  | .symDigit19 => Sys2Proof.Machine.execSymDigit19 s
  | .symDigit20 => Sys2Proof.Machine.execSymDigit20 s
  | .symDigit21 => Sys2Proof.Machine.execSymDigit21 s
  | .symDigit22 => Sys2Proof.Machine.execSymDigit22 s
  | .symDigit23 => Sys2Proof.Machine.execSymDigit23 s
  | .symDigit24 => Sys2Proof.Machine.execSymDigit24 s
  | .symDigit25 => Sys2Proof.Machine.execSymDigit25 s
  | .symDigit26 => Sys2Proof.Machine.execSymDigit26 s
  | .symDigit27 => Sys2Proof.Machine.execSymDigit27 s
  | .symDigit28 => Sys2Proof.Machine.execSymDigit28 s
  | .symDigit29 => Sys2Proof.Machine.execSymDigit29 s
  | .symDigit30 => Sys2Proof.Machine.execSymDigit30 s
  | .symDigit31 => Sys2Proof.Machine.execSymDigit31 s
  | .symDigit32 => Sys2Proof.Machine.execSymDigit32 s
  | .symDigit33 => Sys2Proof.Machine.execSymDigit33 s
  | .symDigit34 => Sys2Proof.Machine.execSymDigit34 s
  | .symDigit35 => Sys2Proof.Machine.execSymDigit35 s
  | .symDigit36 => Sys2Proof.Machine.execSymDigit36 s
  | .symDigit37 => Sys2Proof.Machine.execSymDigit37 s
  | .symDigit38 => Sys2Proof.Machine.execSymDigit38 s
  | .symDigit39 => Sys2Proof.Machine.execSymDigit39 s
  | .symDigit40 => Sys2Proof.Machine.execSymDigit40 s
  | .symDigit41 => Sys2Proof.Machine.execSymDigit41 s
  | .symDigit42 => Sys2Proof.Machine.execSymDigit42 s
  | .symDigit43 => Sys2Proof.Machine.execSymDigit43 s
  | .symDigit44 => Sys2Proof.Machine.execSymDigit44 s
  | .symDigit45 => Sys2Proof.Machine.execSymDigit45 s
  | .symDigit46 => Sys2Proof.Machine.execSymDigit46 s
  | .symDigit47 => Sys2Proof.Machine.execSymDigit47 s
  | .symDigit48 => Sys2Proof.Machine.execSymDigit48 s
  | .symDigit49 => Sys2Proof.Machine.execSymDigit49 s
  | .symDigit50 => Sys2Proof.Machine.execSymDigit50 s
  | .symDigit51 => Sys2Proof.Machine.execSymDigit51 s
  | .symDigit52 => Sys2Proof.Machine.execSymDigit52 s
  | .symDigit53 => Sys2Proof.Machine.execSymDigit53 s
  | .symDigit54 => Sys2Proof.Machine.execSymDigit54 s
  | .symDigit55 => Sys2Proof.Machine.execSymDigit55 s
  | .symDigit56 => Sys2Proof.Machine.execSymDigit56 s

end Sys2Proof.Machine
end

