-- ==== Sys2Proof/Machine/Step.lean ====
section
/-! DEFINITION. One step: the block takes the oldest word that waits on its port, decodes it and carries it out
(20_memory.md R58; 60_exceptions.md R257). -/

namespace Sys2Proof.Machine

open Sys2Proof

/-- With no word on the port the block waits (R280); an illegal word raises ILLEGAL at decode (R255); else the
decoded instruction is carried out. -/
def step (s : State) : Host.Outcome State Fault Refusal :=
  match fetch s with
  | none => .next s
  | some (p, t) =>
    match decode p with
    | .ok i => exec i t
    | .error _ => execIllegal t

/-- `s` with the word that `w` stands for (`tableWord`, assumption 14) presented as the next word the block takes
(assumption 3). -/
def State.withFetchWord (s : State) (nbits w : Nat) : State := present (tableWord nbits w) s

end Sys2Proof.Machine
end

