-- ==== Sys2Proof/Machine/Composite.lean ====
section
/-! DEFINITION. The composites (30_encoding.md R83): the fixed sequences of commands by which a host encodes a message
(43_framer.md R177) and decodes a text (44_decoder.md R200, R201). They are the host's part; the block sees the commands
only. -/

namespace Sys2Proof.Machine

open Sys2Proof

/-- The host issues one command and reads its response; `none` if the command does not answer. -/
def issue (i : Instr) (s : State) : Option (Response × State) :=
  match exec i s with
  | .next t => t.resp.map fun r => (r, t)
  | .fault _ => none
  | .refused _ => none

/-- The instructions carried out in order, up to the first that does not answer (R58). -/
def execAll : List Instr → State → Result
  | [], s => .next s
  | i :: rest, s =>
    match exec i s with
    | .next t => execAll rest t
    | .fault r => .fault r
    | .refused r => .refused r

/-- The host issues the commands in order and joins their outputs. -/
def issueAll : List Instr → State → Option (List Byte × State)
  | [], s => some ([], s)
  | i :: rest, s =>
    (issue i s).bind fun a =>
      (issueAll rest a.2).map fun z => (a.1.out ++ z.1, z.2)

/-- ENC8 of the `j`-th full block of `q` (R177). -/
def blockCommand (q : List Byte) (j : Nat) : Instr :=
  .enc8 (BitVec.ofNat 64 (leNat ((q.drop (blockBytes * j)).take blockBytes)))

/-- ENCT of the tail of `q` (R177). -/
def tailCommand (q : List Byte) : Instr :=
  let r := q.length % blockBytes
  .enct (BitVec.ofNat 3 r) (BitVec.ofNat 64 (leNat (q.drop (q.length - r))))

/-- The commands of `ENCODE q` (R177). -/
def encodeCommands (q : List Byte) : List Instr :=
  .einit :: ((List.range (q.length / blockBytes)).map (blockCommand q) ++ [tailCommand q])

/-- `ENCODE q` (R177): the text, and the state left. -/
def encodeMessage (q : List Byte) (s : State) : Option (List Byte × State) := issueAll (encodeCommands q) s

/-- The result of DECPART (R200). -/
structure PartResult where
  /-- The status it ended with. -/
  reason : Status
  /-- The input bytes consumed. -/
  consumed : Nat
  /-- The bytes decoded. -/
  data : List Byte
deriving DecidableEq, Repr

/-- `DECPART q` (R200): DECB of each byte, up to a stop, an Overflow or the end of the fragment. -/
def decodePart : List Byte → State → Option (PartResult × State)
  | [], s => some (⟨.ok, 0, []⟩, s)
  | b :: q, s =>
    (issue (.decb b) s).bind fun a =>
      if a.1.acc = false then some (⟨a.1.st, 0, []⟩, a.2)
      else if a.1.st = .overflow then some (⟨.overflow, 1, a.1.out⟩, a.2)
      else (decodePart q a.2).map fun z => (⟨z.1.reason, z.1.consumed + 1, a.1.out ++ z.1.data⟩, z.2)

/-- The Decoding Result of the one-shot decoder (R201). -/
structure DecodeResult where
  /-- The decoded bytes written. -/
  written : Nat
  /-- The input bytes consumed. -/
  consumed : Nat
  /-- The termination reason. -/
  reason : Status
  /-- The decoded bytes. -/
  data : List Byte
deriving DecidableEq, Repr

/-- `DECODE q` (R201): DINIT, DECPART, and FLUSH when the fragment's end was reached. -/
def decodeMessage (q : List Byte) (s : State) : Option (DecodeResult × State) :=
  (issue .dinit s).bind fun a =>
    (decodePart q a.2).bind fun p =>
      if p.1.reason ≠ .ok then some (⟨p.1.data.length, p.1.consumed, p.1.reason, p.1.data⟩, p.2)
      else
        (issue .flush p.2).map fun f =>
          (⟨p.1.data.length + f.1.out.length, q.length, f.1.st, p.1.data ++ f.1.out⟩, f.2)

end Sys2Proof.Machine
end

