-- ==== Sys2Proof/Safety.lean ====
section
/-! DEFINITION. The legal states of the block, and what counts as a safe run. -/

namespace Sys2Proof.Machine

open Sys2Proof

/-- The pending symbols are symbol values: `PEND[i] <= 56` for `i < CNT` (10_state.md R21). -/
def State.pendingLegal (s : State) : Bool := (pendingSymbols s).all fun v => decide (v < nsym)

/-- `LAST` is the code of a status that DECB or FLUSH can report, and the sticky flag of the exception it names is
set (R27, R28, R258). -/
def State.lastLegal (s : State) : Bool :=
  s.last == statusCode .ok ||
    [Exception.control, .invalid, .overflow, .truncated].any fun e =>
      s.last == statusCode (exceptionStatus e) && s.err &&& exceptionFlag e == exceptionFlag e

/-- The latest response carries at most 12 bytes (30_encoding.md R76). -/
def State.respLegal (s : State) : Bool :=
  match s.resp with
  | none => true
  | some r => decide (r.out.length ≤ 12)

/-- The legal states: `CNT` is 0..10 (R22), `GCNT` is 0..8 (R29), the pending symbols are symbol values, `LAST` is
legal, and the response fits its record. -/
def State.inv (s : State) : Bool :=
  decide (s.cnt.toNat ≤ 10) && decide (s.gcnt.toNat ≤ lineGroups) && s.pendingLegal && s.lastLegal && s.respLegal

/-- "No failure since stream start" as one predicate on the sticky flags (R27). -/
def State.noFailure (s : State) : Bool := s.err.extractLsb' 0 4 == 0#4

/-- A safe run: `n` steps from `s` answer a next state. The block has no fatal state (60_exceptions.md R259), so every
run from a legal state should be one. -/
def runsSafely (n : Nat) (s : State) : Prop :=
  match n with
  | 0 => True
  | n + 1 => ∃ t, step s = .next t ∧ runsSafely n t

end Sys2Proof.Machine
end

