-- ==== Sys2Proof/WellFormed.lean ====
section
/-! DEFINITION. Which instructions a word of the spec's encodings can stand for. -/

namespace Sys2Proof

/-- RDREG names one of the registers 0..4 (30_encoding.md R73, R84; 45_system.md R233), and an input byte that
keeps its byte keeps one of its own class (R79). Every other operand fills its field. -/
def Instr.wellFormed : Instr → Bool
  | .rdreg r => decide (r.toNat < 5)
  | .symCtrl b => decide (Machine.classify b = .control)
  | .symDelim b => decide (Machine.classify b = .delimiter)
  | .symInval b => decide (Machine.classify b = .invalid)
  | .nop | .rst | .dinit | .einit | .cls _ | .enc8 _
  | .enct _ _ | .enclen _ | .decmax _ | .decb _ | .flush | .symDigit0
  | .symDigit1 | .symDigit2 | .symDigit3 | .symDigit4 | .symDigit5 | .symDigit6
  | .symDigit7 | .symDigit8 | .symDigit9 | .symDigit10 | .symDigit11 | .symDigit12
  | .symDigit13 | .symDigit14 | .symDigit15 | .symDigit16 | .symDigit17 | .symDigit18
  | .symDigit19 | .symDigit20 | .symDigit21 | .symDigit22 | .symDigit23 | .symDigit24
  | .symDigit25 | .symDigit26 | .symDigit27 | .symDigit28 | .symDigit29 | .symDigit30
  | .symDigit31 | .symDigit32 | .symDigit33 | .symDigit34 | .symDigit35 | .symDigit36
  | .symDigit37 | .symDigit38 | .symDigit39 | .symDigit40 | .symDigit41 | .symDigit42
  | .symDigit43 | .symDigit44 | .symDigit45 | .symDigit46 | .symDigit47 | .symDigit48
  | .symDigit49 | .symDigit50 | .symDigit51 | .symDigit52 | .symDigit53 | .symDigit54
  | .symDigit55 | .symDigit56 => true

end Sys2Proof
end

