-- ==== Sys2Proof/Certificates/Slice0/Formulas.lean ====
section
/-! DEFINITION. The spec's tables and closed formulas as the statements of Obligations.lean use them: written from
the rules beside, not from, the functions the machine runs. -/

namespace Sys2Proof.Spec

open Sys2Proof Sys2Proof.Machine

/-- The opcode map of 30_encoding.md R71: the match and the mask of each command. -/
def commandRows : List (CmdWord × CmdWord) :=
  [(0x0000, 0xFFFF), (0x1000, 0xFFFF), (0x2000, 0xFFFF), (0x3000, 0xFFFF), (0x4000, 0xFF00), (0x5000, 0xFFFF),
   (0x6000, 0xF8FF), (0x7000, 0xFFFF), (0x8000, 0xFFFF), (0x9000, 0xFF00), (0xA000, 0xFFFF), (0xB000, 0xFFF0)]

/-- The whole of `CLASS` by ranges (40_classifier.md R106): the entry of the byte `b`. -/
def classByRanges (b : Nat) : Nat :=
  if b ≤ 0x08 then 0x80
  else if b ≤ 0x0D then 0x40
  else if b ≤ 0x1F then 0x80
  else if b ≤ 0x20 then 0x40
  else if b ≤ 0x31 then 0xC0
  else if b ≤ 0x39 then b - 0x32
  else if b ≤ 0x40 then 0xC0
  else if b ≤ 0x48 then b - 0x41 + 8
  else if b ≤ 0x49 then 0xC0
  else if b ≤ 0x4E then b - 0x4A + 16
  else if b ≤ 0x4F then 0xC0
  else if b ≤ 0x5A then b - 0x50 + 21
  else if b ≤ 0x60 then 0xC0
  else if b ≤ 0x6B then b - 0x61 + 32
  else if b ≤ 0x6C then 0xC0
  else if b ≤ 0x7A then b - 0x6D + 43
  else if b ≤ 0x7E then 0xC0
  else if b ≤ 0x7F then 0x80
  else 0xC0

/-- The table `BASE[0..10]` of 00_scope.md R7, as it is printed there. -/
def baseTable : List Nat := [57, 56, 57, 56, 57, 56, 56, 57, 56, 57, 56]

/-- The table `MAG[0..11]` of 00_scope.md R8, as it is printed there. -/
def magTable : List Nat :=
  [1, 57, 3192, 181944, 10188864, 580765248, 32522853888, 1821279817728, 103812949610496, 5813525178187776,
   331370935156703232, 18556772368775380992]

/-- `BASE[i]` (R7). -/
def baseAt (i : Nat) : Nat := baseTable.getD i 0

/-- `MAG[i]` (R8). -/
def magAt (i : Nat) : Nat := magTable.getD i 0

/-- `d[i] = (x div MAG[i]) mod BASE[i]` (41_radix_codec.md R120). -/
def digit (x i : Nat) : Nat := x / magAt i % baseAt i

/-- `s[i] = (i + d[0] + ... + d[i]) mod 57` (R122, closed form). -/
def symbol (x i : Nat) : Nat := (i + ((List.range (i + 1)).map (digit x)).sum) % 57

/-- The `k` lowest symbol values of the integer `x`. -/
def group (k x : Nat) : List Nat := (List.range k).map (symbol x)

/-- The text of those symbols (R125, R150). -/
def groupText (k x : Nat) : List Byte := (group k x).map symbolByte

/-- `out[j] = (v div 256^j) mod 256` for j < n (20_memory.md R52, R53). -/
def bytesOut (n v : Nat) : List Byte := (List.range n).map fun j => BitVec.ofNat 8 (v / 256 ^ j % 256)

/-- The sticky flag that a response's status goes with; none for OK (10_state.md R27, 60_exceptions.md R258). -/
def flagOfStatus : Status → BitVec 5
  | .ok => 0b00000
  | .control => 0b00001
  | .invalid => 0b00010
  | .overflow => 0b00100
  | .truncated => 0b01000
  | .illegal => 0b10000

/-- The input bytes as operations of their own (30_encoding.md R79). -/
def IsInputByte (i : Instr) : Prop :=
  (∃ b, i = .symCtrl b) ∨ (∃ b, i = .symDelim b) ∨ (∃ b, i = .symInval b) ∨ i ∈ digitInstrs

/-- A step of the text or its end: DECB, FLUSH, or an input byte. -/
def IsTextCommand (i : Instr) : Prop := (∃ b, i = .decb b) ∨ i = .flush ∨ IsInputByte i

/-- The commands that write the decode side (20_memory.md R61). -/
def IsDecodeSide (i : Instr) : Prop := i = .dinit ∨ IsTextCommand i

/-- The commands that write the encode side (20_memory.md R61). -/
def IsEncodeSide (i : Instr) : Prop := i = .einit ∨ (∃ x, i = .enc8 x) ∨ ∃ n din, i = .enct n din

/-- Two states that differ in `PEND[i]` for `i >= CNT` only (10_state.md R23). -/
def SameVisible (s t : State) : Prop :=
  t = { s with pend := t.pend } ∧ pendingSymbols s = pendingSymbols t

/-- A byte of class Delimiter (40_classifier.md R106). -/
def isDelimiter (b : Byte) : Bool := classByRanges b.toNat == 0x40

end Sys2Proof.Spec
end

