-- ==== Sys2Proof/Certificates/Slice0/Obligations.lean ====
section
/-! DEFINITION. The statements for the provers. Each docstring names the rules of spec/ it formalises. -/

open Sys2Proof Sys2Proof.Machine

/-! ### Words -/

/-- 30_encoding.md R71, R72, R79: decoding the word of a well-formed instruction gives it back, with every operand
at every value its field admits. That an input byte is a word of its own is the model's choice, log entry 4. -/
def Obligations.DecodeOfEncodeIsTheInstruction : Prop :=
  ∀ i : Instr, i.wellFormed = true → decode (encode i) = .ok i

/-- R70, R72, R79: a word that decodes is the word of the instruction it decodes to, `DIN` counting for ENC8, ENCT,
ENCLEN and DECMAX only; and every input byte decodes. R70 says only that the other commands ignore `DIN`: that the
encoder gives their word `DIN` 0 is the model's choice, log entry 10. That an input byte is a word of its own is the
model's choice too, log entry 4. -/
def Obligations.EncodeOfDecodeIsTheWord : Prop :=
  (∀ (cw : CmdWord) (din : DataWord) (i : Instr), decode (.command cw din) = .ok i →
    i.wellFormed = true ∧
      encode i = .command cw (if (cw >>> 12).toNat ∈ [0x5, 0x6, 0x7, 0x8] then din else 0)) ∧
  (∀ b : Byte, ∃ i, decode (.textByte b) = .ok i ∧ i.wellFormed = true ∧ encode i = .textByte b)

/-- 30_encoding.md R73, 45_system.md R233: a command word is illegal exactly when it satisfies no row of the opcode map or
is RDREG of a register 5..15; it sets `ERR[4]`, is answered ILLEGAL with `acc = 0`, and changes nothing else of the block.
Any other word decodes. The rules say nothing of a list of waiting words: that the word stands first in one and is taken
off it (`port := rest`) is the model's choice, log entry 3. -/
def Obligations.IllegalWordsAreThoseOutsideTheOpcodeMap : Prop :=
  ∀ (cw : CmdWord) (din : DataWord) (rest : List PortWord) (s : State), s.port = .command cw din :: rest →
    (((∀ row ∈ Spec.commandRows, cw &&& row.2 ≠ row.1) ∨ (cw &&& 0xFFF0 = 0xB000 ∧ 5 ≤ (cw &&& 0x000F).toNat)) →
      step s = .next { s with
        port := rest, err := s.err ||| 0b10000, resp := some ⟨.illegal, false, [], 0⟩ }) ∧
    (¬ ((∀ row ∈ Spec.commandRows, cw &&& row.2 ≠ row.1) ∨ (cw &&& 0xFFF0 = 0xB000 ∧ 5 ≤ (cw &&& 0x000F).toNat)) →
      ∃ i, decode (.command cw din) = .ok i)

/-- R71, R79, R100: one word of each family, written out, decodes to the instruction it stands for. That an
input byte is a word of its own is the model's choice, log entry 4. -/
def Obligations.WrittenOutWordsDecode : Prop :=
  decode (.command 0x0000 0) = .ok .nop ∧
  decode (.command 0x3000 0) = .ok .einit ∧
  decode (.command 0x4041 0) = .ok (.cls 0x41) ∧
  decode (.command 0x5000 0x4847464544434241) = .ok (.enc8 0x4847464544434241) ∧
  decode (.command 0x6200 0x4A49) = .ok (.enct 2 0x4A49) ∧
  decode (.command 0x90FF 0) = .ok (.decb 0xFF) ∧
  decode (.command 0xA000 0) = .ok .flush ∧
  decode (.command 0xB004 0) = .ok (.rdreg 4) ∧
  decode (.textByte 0x41) = .ok .symDigit8 ∧
  decode (.textByte 0x0A) = .ok (.symDelim 0x0A) ∧
  decode (.textByte 0x7F) = .ok (.symCtrl 0x7F) ∧
  decode (.textByte 0x6C) = .ok (.symInval 0x6C)

/-- 40_classifier.md R100, R102, R108: the Digit entries of `CLASS` are the inverse of `ALPHABET`, the line break is a
Delimiter, and the classes have 57, 6, 28 and 165 bytes. -/
def Obligations.DigitEntriesInvertTheAlphabet : Prop :=
  (∀ v < 57, (classEntry (symbolByte v)).toNat = v) ∧
  (∀ b : Byte, (classEntry b).toNat < 64 → (classEntry b).toNat < 57 ∧ symbolByte (classEntry b).toNat = b) ∧
  (classEntry config.lineBreak).toNat = 0x40 ∧
  ((List.range 256).map fun b => (classEntry (BitVec.ofNat 8 b)).toNat / 64).count 0 = 57 ∧
  ((List.range 256).map fun b => (classEntry (BitVec.ofNat 8 b)).toNat / 64).count 1 = 6 ∧
  ((List.range 256).map fun b => (classEntry (BitVec.ofNat 8 b)).toNat / 64).count 2 = 28 ∧
  ((List.range 256).map fun b => (classEntry (BitVec.ofNat 8 b)).toNat / 64).count 3 = 165

/-! ### Steps -/

/-- The model's own connection of `step` to `exec`, under which R58 (commands in issue order) and R257(1) (decoding comes
first) are read: when the first waiting word decodes to `i`, the step takes it off the port and is `exec i`; so is the
step on a word placed by `withFetchWord`. The list of waiting words, and that `withFetchWord` puts its word in front of
them, are the model's choice, log entry 3; the number that stands for a word is so too, log entry 14. -/
def Obligations.StepRunsTheDecodedInstruction : Prop :=
  (∀ (s : State) (p : PortWord) (rest : List PortWord) (i : Instr), s.port = p :: rest → decode p = .ok i →
    step s = exec i { s with port := rest }) ∧
  (∀ (s : State) (nbits w : Nat) (i : Instr), decodeTableWord nbits w = some i →
    step (s.withFetchWord nbits w) = exec i s)

/-- 70_reset_and_hazards.md R280 ("After reset the block waits for its first command"), read at every state: with no
word presented, a step changes nothing. The step that waits is the model's reading, log entry 3. -/
def Obligations.StepWaitsForACommand : Prop :=
  ∀ s : State, s.port = [] → step s = .next s

/-- 30_encoding.md R79: an input byte presented on its own does what DECB of the byte does. That a byte can be
presented on its own is the model's choice, log entry 4, and the list it waits in log entry 3. -/
def Obligations.InputByteStepIsTheDecbStep : Prop :=
  ∀ (s : State) (rest : List PortWord) (b : Byte) (din : DataWord),
    step { s with port := .textByte b :: rest } = step { s with port := .command (0x9000 + b.zeroExtend 16) din :: rest }

/-- A claim about the model's queue of waiting words, log entry 3 (DESIGN CHOICE: R24 says that commands are not stored,
R58 that the next is accepted only after the response to the current one): the words are taken in the order in which they
wait, each carried out on the state that all earlier ones left, as R58 says of commands issued one by one, and the words
behind them are left alone. -/
def Obligations.WaitingWordsRunInIssueOrder : Prop :=
  ∀ (is : List Instr) (rest : List PortWord) (s : State), (∀ i ∈ is, i.wellFormed = true) →
    Host.Core.run Sys2Proof.core is.length { s with port := is.map encode ++ rest } =
      execAll is { s with port := rest }

/-- What R259 (no fatal state) and R296 (every command completes) come to for the model's queue of waiting words, log
entry 3 (DESIGN CHOICE, as is the run that empties the queue): from a legal state every word presented, legal or not, is
taken and answered, and the state stays legal. -/
def Obligations.EveryPresentedWordIsAnswered : Prop :=
  ∀ s : State, s.inv = true →
    ∃ t : State, Host.Core.run Sys2Proof.core s.port.length s = .next t ∧
      t.port = [] ∧ t.inv = true ∧ (s.port ≠ [] → t.resp.isSome = true)

/-! ### Legal states -/

/-- 10_state.md R22, R29, R35: the reset state is legal. -/
def Obligations.ResetStateIsLegal : Prop := State.reset.inv = true

/-- R21, R22, R27, R28, R29, R76: every step keeps the state legal (`CNT` at most 10, `GCNT` at most 8, the pending
symbols 0..56, `LAST` a code that goes with a set flag, at most 12 output bytes). -/
def Obligations.StepKeepsLegalStates : Prop :=
  ∀ s t : State, s.inv = true → step s = .next t → t.inv = true

/-- 60_exceptions.md R259: the block never locks up: every run from a legal state is safe, however long. -/
def Obligations.LegalStatesNeverStop : Prop :=
  ∀ (n : Nat) (s : State), s.inv = true → runsSafely n s

/-! ### Reset and system commands -/

/-- 70_reset_and_hazards.md R280: what reset leaves (`PEND` unspecified, so nothing is said of it, but that it cannot
be read); RST gives the same state; any instruction may be the first. The step that waits with no word presented is the
model's reading, log entry 3. -/
def Obligations.ResetLeavesTheResetState : Prop :=
  (State.reset.cnt = 0 ∧ State.reset.consumed = 0 ∧ State.reset.produced = 0 ∧ State.reset.err = 0 ∧
    State.reset.last = 0 ∧ State.reset.gcnt = 0) ∧
  (∀ p : Vector SymWord 10, exec (.rdreg 3) { State.reset with pend := p } =
    .next { State.reset with pend := p, resp := some ⟨.ok, true, [], 0⟩ }) ∧
  (∀ s : State, exec .rst s =
    .next { State.reset with pend := s.pend, port := s.port, resp := some ⟨.ok, true, [], 0⟩ }) ∧
  step State.reset = .next State.reset ∧
  (∀ i : Instr, ∃ t, exec i State.reset = .next t)

/-- 45_system.md R231: RST puts the block in its reset state; it is DINIT and EINIT together and also clears `ERR[4]`,
and it is the only instruction that clears that flag. -/
def Obligations.RstResult : Prop :=
  (∀ s : State, exec .rst s =
    .next { s with
      cnt := 0, consumed := 0, produced := 0, err := 0, last := 0, gcnt := 0,
      resp := some ⟨.ok, true, [], 0⟩ }) ∧
  (∀ s t u : State, exec .dinit s = .next t → exec .einit t = .next u →
    exec .rst s = .next { u with err := u.err &&& 0b01111 }) ∧
  (∀ (i : Instr) (s t : State), i ≠ .rst → exec i s = .next t →
    s.err &&& 0b10000 = 0b10000 → t.err &&& 0b10000 = 0b10000)

/-- 45_system.md R230: NOP does nothing but respond, and 0x0000 is its only encoding. -/
def Obligations.NopResult : Prop :=
  (∀ s : State, exec .nop s = .next { s with resp := some ⟨.ok, true, [], 0⟩ }) ∧
  (∀ (cw : CmdWord) (din : DataWord), decode (.command cw din) = .ok .nop ↔ cw = 0x0000)

/-- 45_system.md R232, 10_state.md R30: RDREG reads STATUS, CONSUMED, PRODUCED, PENDV and ID and changes no state; the
registers 5..15 are an illegal command. -/
def Obligations.RdregResult : Prop :=
  ∀ s : State,
    exec (.rdreg 0) s = .next { s with resp := some ⟨.ok, true, [],
      BitVec.ofNat 65 (s.last.toNat + 8 * s.err.toNat + 256 * s.cnt.toNat + 4096 * s.gcnt.toNat)⟩ } ∧
    exec (.rdreg 1) s = .next { s with resp := some ⟨.ok, true, [], BitVec.ofNat 65 s.consumed.toNat⟩ } ∧
    exec (.rdreg 2) s = .next { s with resp := some ⟨.ok, true, [], BitVec.ofNat 65 s.produced.toNat⟩ } ∧
    exec (.rdreg 3) s = .next { s with resp := some ⟨.ok, true, [],
      BitVec.ofNat 65 (∑ i : Fin 10, if i.val < s.cnt.toNat then (s.pend[i]).toNat * 2 ^ (6 * i.val) else 0)⟩ } ∧
    exec (.rdreg 4) s = .next { s with resp := some ⟨.ok, true, [], 0x42353701⟩ } ∧
    (∀ r : BitVec 4, 5 ≤ r.toNat → exec (.rdreg r) s =
      .next { s with err := s.err ||| 0b10000, resp := some ⟨.illegal, false, [], 0⟩ })

/-! ### Classifier -/

/-- 40_classifier.md R106, R107: CLS returns the byte's entry of `CLASS` and writes no state. -/
def Obligations.ClsReturnsTheClassEntry : Prop :=
  ∀ (b : Byte) (s : State), exec (.cls b) s =
    .next { s with resp := some ⟨.ok, true, [], BitVec.ofNat 65 (Spec.classByRanges b.toNat)⟩ }

/-! ### Framer -/

/-- 43_framer.md R170: EINIT clears `GCNT` and writes nothing else. -/
def Obligations.EinitResult : Prop :=
  ∀ s : State, exec .einit s = .next { s with gcnt := 0, resp := some ⟨.ok, true, [], 0⟩ }

/-- 43_framer.md R171 with 41_radix_codec.md R120, R122, R125: ENC8 puts out the eleven symbols of the integer, after
the line break when the line is full, and counts the group. -/
def Obligations.Enc8Result : Prop :=
  ∀ (x : DataWord) (s : State), exec (.enc8 x) s =
    .next { s with
      gcnt := if s.gcnt = 8 then 1 else s.gcnt + 1
      resp := some ⟨.ok, true, (if s.gcnt = 8 then [0x0A] else []) ++ Spec.groupText 11 x.toNat, 0⟩ }

/-- 43_framer.md R172 with 42_tail.md R150: ENCT puts out the `DIGITS[n]` lowest symbols of the low `8n` bits of `DIN`,
after the line break when the line is full; nothing at all for n = 0. -/
def Obligations.EnctResult : Prop :=
  (∀ (din : DataWord) (s : State), exec (.enct 0 din) s = .next { s with resp := some ⟨.ok, true, [], 0⟩ }) ∧
  (∀ (n : BitVec 3) (din : DataWord) (s : State), n ≠ 0 → exec (.enct n din) s =
    .next { s with
      gcnt := if s.gcnt = 8 then 1 else s.gcnt + 1
      resp := some ⟨.ok, true, (if s.gcnt = 8 then [0x0A] else []) ++
        Spec.groupText (digitsOf n.toNat) (din.toNat % 2 ^ (8 * n.toNat)), 0⟩ })

/-- 43_framer.md R174: ENCLEN returns the exact length, without wrap-around, and writes no state. -/
def Obligations.EnclenResult : Prop :=
  ∀ (x : DataWord) (s : State), ∃ v : ValWord,
    exec (.enclen x) s = .next { s with resp := some ⟨.ok, true, [], v⟩ } ∧
    v.toNat = 11 * (x.toNat / 8) + digitsOf (x.toNat % 8) +
      (if 11 * (x.toNat / 8) + digitsOf (x.toNat % 8) = 0 then 0
       else (11 * (x.toNat / 8) + digitsOf (x.toNat % 8) - 1) / 88)

/-- 43_framer.md R175: the encoded length is at most 1.5 times the length, from 4 bytes on. -/
def Obligations.EncodedLengthDensity : Prop :=
  ∀ n : Nat, 4 ≤ n → 2 * encodedLength n ≤ 3 * n

/-- 43_framer.md R178: the text of ENCODE has exactly the encoded length, from every state. -/
def Obligations.EncodedTextHasTheEncodedLength : Prop :=
  ∀ (q : List Byte) (s : State), ∃ text t, encodeMessage q s = some (text, t) ∧ text.length = encodedLength q.length

/-- 43_framer.md R173, 30_encoding.md R81: ENCODE puts a line break after each full line of 88 symbols that a further
symbol follows, and nowhere else. -/
def Obligations.LineBreaksEndTheFullLines : Prop :=
  ∀ (q : List Byte) (s : State), ∃ text t, encodeMessage q s = some (text, t) ∧
    (∀ i < text.length, text[i]? = some 0x0A ↔ i % 89 = 88) ∧ (text.length % 89 = 0 → q = [])

/-! ### Radix codec -/

/-- 41_radix_codec.md R120: successive division gives `d[i] = (x div MAG[i]) mod BASE[i]`, each digit in range. -/
def Obligations.DigitsArePositional : Prop :=
  ∀ x k : Nat, 1 ≤ k → k ≤ 11 →
    digits x k = (List.range k).map (Spec.digit x) ∧ (∀ i < k, (digits x k).getD i 0 < Spec.baseAt i)

/-- 41_radix_codec.md R121: the eleven digits of a 64-bit integer sum to it exactly, the quotient left is 0, and the top
digit is at most 55. -/
def Obligations.FullGroupDigitsSumToTheInteger : Prop :=
  ∀ x : Nat, x < 2 ^ 64 →
    groupValue (digits x 11) = x ∧ x / Spec.magAt 11 = 0 ∧ (digits x 11).getD 10 0 ≤ 55

/-- 41_radix_codec.md R122: the symbol values by recurrence and in closed form. -/
def Obligations.SymbolsAccumulateTheOffset : Prop :=
  ∀ d : List Nat, (∀ v ∈ d, v < 57) →
    (symbols d).length = d.length ∧ (symbols d)[0]? = d[0]? ∧
    (∀ i, i + 1 < d.length →
      (symbols d).getD (i + 1) 0 = ((symbols d).getD i 0 + 1 + d.getD (i + 1) 0) % 57) ∧
    (∀ i < d.length, (symbols d).getD i 0 = (i + (d.take (i + 1)).sum) % 57)

/-- 41_radix_codec.md R124: the offset is inverted: a bijection between sequences of symbol values and sequences of
values in 0..56. -/
def Obligations.OffsetInversionIsABijection : Prop :=
  (∀ d : List Nat, (∀ v ∈ d, v < 57) → digitsOfSymbols (symbols d) = d) ∧
  (∀ s : List Nat, (∀ v ∈ s, v < 57) →
    symbols (digitsOfSymbols s) = s ∧ (∀ v ∈ digitsOfSymbols s, v < 57) ∧
    (digitsOfSymbols s)[0]? = s[0]? ∧
    (∀ i, i + 1 < s.length →
      (digitsOfSymbols s).getD (i + 1) 0 = (s.getD (i + 1) 0 + 56 - s.getD i 0) % 57))

/-- 41_radix_codec.md R126, R127: GDEC gives a value exactly when every digit is in range and the sum fits 64 bits, and
then that sum. -/
def Obligations.GroupDecodesExactlyWhenItFits : Prop :=
  ∀ (s : List Nat) (x : Nat), s.length = 11 → (∀ v ∈ s, v < 57) →
    (gdec s = .value x ↔
      (∀ i < 11, (digitsOfSymbols s).getD i 0 < Spec.baseAt i) ∧
      x = ((List.range 11).map fun i => (digitsOfSymbols s).getD i 0 * Spec.magAt i).sum ∧ x ≤ 2 ^ 64 - 1)

/-- 41_radix_codec.md R129: round trip and canonical form of full groups. -/
def Obligations.FullGroupRoundTrip : Prop :=
  (∀ x : Nat, x < 2 ^ 64 → gdec (genc x) = .value x) ∧
  (∀ (s : List Nat) (x : Nat), s.length = 11 → (∀ v ∈ s, v < 57) → gdec s = .value x →
    x < 2 ^ 64 ∧ s = genc x)

/-- 42_tail.md R156: round trip and canonical form of tails. -/
def Obligations.TailRoundTrip : Prop :=
  (∀ n v : Nat, 1 ≤ n → n ≤ 7 → v < 256 ^ n → tdec (tenc n v) = .value n v) ∧
  (∀ (s : List Nat) (n v : Nat), 1 ≤ s.length → s.length ≤ 10 → (∀ u ∈ s, u < 57) → tdec s = .value n v →
    1 ≤ n ∧ n ≤ 7 ∧ v < 256 ^ n ∧ s = tenc n v)

/-- 42_tail.md R151: truncating a tail to `DIGITS[n]` digits loses nothing, and the count is the least that works. -/
def Obligations.TailDigitCountsAreExact : Prop :=
  ∀ n : Nat, 1 ≤ n → n ≤ 7 →
    256 ^ n ≤ Spec.magAt (digitsOf n) ∧ Spec.magAt (digitsOf n - 1) < 256 ^ n ∧
    (∀ v < 256 ^ n, (∀ i, digitsOf n ≤ i → i ≤ 10 → Spec.digit v i = 0) ∧ groupValue (digits v (digitsOf n)) = v)

/-- 42_tail.md R153: the source's flush procedure (extend by successive symbol values, decode as a full group, take the
value modulo `57^k`) computes the value that TDEC computes. -/
def Obligations.FlushByExtensionAgrees : Prop :=
  ∀ s : List Nat, 1 ≤ s.length → s.length ≤ 10 → (∀ v ∈ s, v < 57) → outOfRange (digitsOfSymbols s) = false →
    gdec (s ++ (List.range (11 - s.length)).map fun j => (s.getLastD 0 + 1 + j) % 57) =
      .value (groupValue (digitsOfSymbols s)) ∧
    groupValue (digitsOfSymbols s) % 57 ^ s.length = groupValue (digitsOfSymbols s)

/-! ### Decoder -/

/-- 44_decoder.md R191: DINIT empties the buffer, clears the counters, `ERR[3:0]` and `LAST`, keeps `ERR[4]` and writes
nothing else. -/
def Obligations.DinitResult : Prop :=
  ∀ s : State, exec .dinit s =
    .next { s with
      cnt := 0, consumed := 0, produced := 0, err := s.err &&& 0b10000, last := 0,
      resp := some ⟨.ok, true, [], 0⟩ }

/-- 60_exceptions.md R251, R252: DECB of a Control or Invalid byte stops at any `CNT`: the byte is not consumed, the sticky
flag and `LAST` are written, nothing else changes. SYM.CTRL and SYM.INVAL do the same by R79; that they are instructions
of their own is the model's choice, log entry 4. -/
def Obligations.StopBytesAreNotConsumed : Prop :=
  ∀ (b : Byte) (s : State),
    (Spec.classByRanges b.toNat = 0x80 → ∀ i ∈ [Instr.decb b, Instr.symCtrl b], exec i s =
      .next { s with err := s.err ||| 0b00001, last := 1, resp := some ⟨.control, false, [], 0⟩ }) ∧
    (Spec.classByRanges b.toNat = 0xC0 → ∀ i ∈ [Instr.decb b, Instr.symInval b], exec i s =
      .next { s with err := s.err ||| 0b00010, last := 2, resp := some ⟨.invalid, false, [], 0⟩ })

/-- 44_decoder.md R192(b), R190: DECB of a Delimiter byte at every `CNT`: consumed, and nothing but `CONSUMED` and `LAST`
changes. SYM.DELIM does the same by R79; that it is an instruction of its own is the model's choice, log entry 4. -/
def Obligations.DelimiterBytesAreSkipped : Prop :=
  ∀ (b : Byte) (s : State), Spec.classByRanges b.toNat = 0x40 →
    ∀ i ∈ [Instr.decb b, Instr.symDelim b], exec i s =
      .next { s with consumed := s.consumed + 1, last := 0, resp := some ⟨.ok, true, [], 0⟩ }

/-- 44_decoder.md R192, 10_state.md R21: DECB of the byte of symbol value `v`, and SYM.DIGIT_v, v = 0..56, with at most
nine symbols pending: `PEND[CNT]` becomes `v`, the other registers of `PEND` keep their values, `CNT` and `CONSUMED`
advance. That an input byte is an instruction of its own is the model's choice, log entry 4. -/
def Obligations.DigitBytesAreAppended : Prop :=
  ∀ (v : Nat) (i : Instr) (s : State), v < 57 → (i = .decb (symbolByte v) ∨ digitInstrs[v]? = some i) →
    s.cnt.toNat ≤ 9 →
    ∃ p : Vector SymWord 10,
      exec i s = .next { s with
        pend := p, cnt := s.cnt + 1, consumed := s.consumed + 1, last := 0, resp := some ⟨.ok, true, [], 0⟩ } ∧
      (∀ j : Fin 10, (p[j]).toNat = if j.val = s.cnt.toNat then v else (s.pend[j]).toNat)

/-- 44_decoder.md R192, R190, 60_exceptions.md R253: the eleventh symbol (DECB, or SYM.DIGIT_v, v = 0..56) completes the
group: the 8 bytes of the integer whose group it is, or OVERFLOW where it is no integer's group; the buffer is emptied
and the byte consumed in both cases. That an input byte is an instruction of its own is the model's choice, log
entry 4. -/
def Obligations.EleventhSymbolCompletesTheGroup : Prop :=
  ∀ (v : Nat) (i : Instr) (s : State), v < 57 → (i = .decb (symbolByte v) ∨ digitInstrs[v]? = some i) →
    s.cnt = 10 → (∀ j : Fin 10, (s.pend[j]).toNat < 57) →
    (∀ x < 2 ^ 64, s.pend.toList.map BitVec.toNat ++ [v] = Spec.group 11 x →
      exec i s = .next { s with
        cnt := 0, consumed := s.consumed + 1, produced := s.produced + 8, last := 0,
        resp := some ⟨.ok, true, Spec.bytesOut 8 x, 0⟩ }) ∧
    ((∀ x < 2 ^ 64, s.pend.toList.map BitVec.toNat ++ [v] ≠ Spec.group 11 x) →
      exec i s = .next { s with
        cnt := 0, consumed := s.consumed + 1, err := s.err ||| 0b00100, last := 3,
        resp := some ⟨.overflow, true, [], 0⟩ })

/-- 44_decoder.md R197(a), R198: FLUSH of the empty buffer is the no-op, and after any FLUSH a second one is that
no-op. -/
def Obligations.FlushOfTheEmptyBufferIsANoOp : Prop :=
  (∀ s : State, s.cnt = 0 → exec .flush s = .next { s with last := 0, resp := some ⟨.ok, true, [], 0⟩ }) ∧
  (∀ s t : State, exec .flush s = .next t →
    exec .flush t = .next { t with last := 0, resp := some ⟨.ok, true, [], 0⟩ })

/-- 60_exceptions.md R254, 42_tail.md R154: FLUSH with 1, 4 or 8 pending symbols, whatever they are: TRUNCATED, no
output, buffer emptied. -/
def Obligations.FlushOfATruncatedCount : Prop :=
  ∀ s : State, s.cnt.toNat ∈ [1, 4, 8] → exec .flush s =
    .next { s with cnt := 0, err := s.err ||| 0b01000, last := 4, resp := some ⟨.truncated, true, [], 0⟩ }

/-- 44_decoder.md R197, 42_tail.md R152, R155: FLUSH with 2, 3, 5, 6, 7, 9 or 10 pending symbols: the `n` bytes of the
tail whose spelling they are, or OVERFLOW where they spell no tail of that length; the buffer is emptied and `CONSUMED`
unchanged in both cases. -/
def Obligations.FlushDecodesTheTail : Prop :=
  ∀ s : State, s.cnt.toNat ∈ [2, 3, 5, 6, 7, 9, 10] → (∀ u ∈ pendingSymbols s, u < 57) →
    (∀ n v : Nat, 1 ≤ n → n ≤ 7 → v < 256 ^ n → pendingSymbols s = Spec.group (digitsOf n) v →
      exec .flush s = .next { s with
        cnt := 0, produced := s.produced + BitVec.ofNat 64 n, last := 0,
        resp := some ⟨.ok, true, Spec.bytesOut n v, 0⟩ }) ∧
    ((∀ n v : Nat, 1 ≤ n → n ≤ 7 → v < 256 ^ n → pendingSymbols s ≠ Spec.group (digitsOf n) v) →
      exec .flush s = .next { s with
        cnt := 0, err := s.err ||| 0b00100, last := 3, resp := some ⟨.overflow, true, [], 0⟩ })

/-- 44_decoder.md R199: DECMAX returns 8 bytes for each eleven symbols and the most bytes that the rest can give, below
the length itself, and writes no state. -/
def Obligations.DecmaxResult : Prop :=
  ∀ (x : DataWord) (s : State), ∃ (v : ValWord) (n : Nat),
    exec (.decmax x) s = .next { s with resp := some ⟨.ok, true, [], v⟩ } ∧
    v.toNat = 8 * (x.toNat / 11) + n ∧
    n ≤ 7 ∧ digitsOf n ≤ x.toNat % 11 ∧ (∀ m ≤ 7, digitsOf m ≤ x.toNat % 11 → m ≤ n) ∧
    (1 ≤ x.toNat → v.toNat < x.toNat)

/-- 44_decoder.md R199: the bound holds for DECODE of every text, and never decreases. -/
def Obligations.DecodedLengthIsBounded : Prop :=
  (∀ (q : List Byte) (s t : State) (r : DecodeResult), decodeMessage q s = some (r, t) →
    r.written ≤ decodedMaxLength q.length) ∧
  (∀ m n : Nat, m ≤ n → decodedMaxLength m ≤ decodedMaxLength n)

/-! ### Texts -/

/-- 44_decoder.md R202: decoding an encoded message gives the message back, all of its text consumed, from every
state. -/
def Obligations.DecodeOfEncodeIsTheMessage : Prop :=
  ∀ (q : List Byte) (s : State), ∃ text t, encodeMessage q s = some (text, t) ∧
    ∀ u : State, ∃ w, decodeMessage text u = some (⟨q.length, encodedLength q.length, .ok, q⟩, w)

/-- 44_decoder.md R203: cutting a text into fragments changes nothing, provided the first fragment does not return
early. -/
def Obligations.FragmentsDecodeAsTheWhole : Prop :=
  ∀ (q1 q2 : List Byte) (s t : State) (p : PartResult), decodePart q1 s = some (p, t) → p.reason = .ok →
    decodePart (q1 ++ q2) s =
      (decodePart q2 t).map fun z => (⟨z.1.reason, p.consumed + z.1.consumed, p.data ++ z.1.data⟩, z.2)

/-- 44_decoder.md R204: delimiters anywhere change the consumed count (and `LAST`) only: neither the bytes nor the
reason nor the decoder's other state. -/
def Obligations.DelimitersChangeTheConsumedCountOnly : Prop :=
  ∀ (q : List Byte) (s t : State) (p : PartResult), decodePart q s = some (p, t) →
    ∃ (p' : PartResult) (t' : State), decodePart (q.filter fun b => !Spec.isDelimiter b) s = some (p', t') ∧
      p'.reason = p.reason ∧ p'.data = p.data ∧
      p.consumed = p'.consumed + ((q.take p.consumed).filter Spec.isDelimiter).length ∧
      t'.pend = t.pend ∧ t'.cnt = t.cnt ∧ t'.produced = t.produced ∧ t'.err = t.err ∧ t'.gcnt = t.gcnt

/-- 44_decoder.md R205, R200: decoding stops exactly at the first Control or Invalid byte, whatever is pending; the
pending symbols and the counts stay as the bytes before it left them. -/
def Obligations.DecodingStopsAtTheFirstBadByte : Prop :=
  ∀ (q1 q2 : List Byte) (b : Byte) (s t : State) (p : PartResult),
    decodePart q1 s = some (p, t) → p.reason = .ok →
    (Spec.classByRanges b.toNat = 0x80 → decodePart (q1 ++ b :: q2) s =
      some (⟨.control, q1.length, p.data⟩,
        { t with err := t.err ||| 0b00001, last := 1, resp := some ⟨.control, false, [], 0⟩ })) ∧
    (Spec.classByRanges b.toNat = 0xC0 → decodePart (q1 ++ b :: q2) s =
      some (⟨.invalid, q1.length, p.data⟩,
        { t with err := t.err ||| 0b00010, last := 2, resp := some ⟨.invalid, false, [], 0⟩ }))

/-- 44_decoder.md R201, 60_exceptions.md R259: DECODE always answers, from every state; its counts are the counters',
whatever the reason; a reason OK means that the whole text was consumed and nothing is pending; and the reason is OK
exactly when the sticky flags show no failure since the stream's start (10_state.md R27). -/
def Obligations.DecodeReportsTheCounters : Prop :=
  ∀ (q : List Byte) (s : State), ∃ (r : DecodeResult) (t : State), decodeMessage q s = some (r, t) ∧
    r.written = r.data.length ∧ r.consumed ≤ q.length ∧
    t.consumed = BitVec.ofNat 64 r.consumed ∧ t.produced = BitVec.ofNat 64 r.written ∧
    (r.reason = .ok → r.consumed = q.length ∧ t.cnt = 0) ∧ r.reason ≠ .illegal ∧
    (r.reason = .ok ↔ t.noFailure = true)

/-! ### The machine as a whole -/

/-- 20_memory.md R61: the decode side and the encode side are disjoint: where a command of the encode side and after
it one of the decode side answer, the decode side's may come first: each keeps its response, and the state left is the
same. The decode side's are DINIT, DECB, FLUSH and the input bytes, which do what DECB does (30_encoding.md R79); that an
input byte is an instruction of its own is the model's choice, log entry 4. -/
def Obligations.EncodeAndDecodeCommandsCommute : Prop :=
  ∀ (e d : Instr) (s t u : State), Spec.IsEncodeSide e → Spec.IsDecodeSide d →
    exec e s = .next t → exec d t = .next u →
    ∃ t' u' : State, exec d s = .next t' ∧ exec e t' = .next u' ∧
      t'.resp = u.resp ∧ u'.resp = t.resp ∧ { u' with resp := u.resp } = u

/-- 10_state.md R23: what `PEND[i]` holds for `i >= CNT` is never read: two states that differ there only step to states
that differ there only, with the same response. -/
def Obligations.StalePendingSymbolsAreUnobservable : Prop :=
  ∀ s t u : State, Spec.SameVisible s t → step s = .next u → ∃ v, step t = .next v ∧ Spec.SameVisible u v

/-- 10_state.md R27: a flag is set by its event and by nothing else, and cleared by DINIT (flags 0 to 3) and RST
only. That an input byte is an instruction of its own, which sets the flags that DECB sets (30_encoding.md R79), is the
model's choice, log entry 4. -/
def Obligations.FlagsAreStickyAndSetByTheirEvents : Prop :=
  ∀ (i : Instr) (s t : State), exec i s = .next t →
    (i = .rst → t.err = 0) ∧ (i = .dinit → t.err = s.err &&& 0b10000) ∧
    (i ≠ .rst → i ≠ .dinit → ∃ r, t.resp = some r ∧ t.err = s.err ||| Spec.flagOfStatus r.st)

/-- 10_state.md R28: `LAST` is the status code of the latest DECB or FLUSH, 0 after DINIT or RST, and no other instruction
writes it. The input bytes write it as DECB does (30_encoding.md R79); that an input byte is an instruction of its own is
the model's choice, log entry 4. -/
def Obligations.LastIsTheDecodersLatestStatus : Prop :=
  ∀ (i : Instr) (s t : State), exec i s = .next t →
    (Spec.IsTextCommand i → ∃ r, t.resp = some r ∧ t.last = statusCode r.st) ∧
    (i = .dinit ∨ i = .rst → t.last = 0) ∧
    (¬ Spec.IsTextCommand i → i ≠ .dinit → i ≠ .rst → t.last = s.last)

/-- 30_encoding.md R76, 60_exceptions.md R258: every instruction that answers returns a response record of at most 12
bytes, `acc = 0` exactly for CONTROL, INVALID and ILLEGAL, with no output and value 0 unless OK. The clause that it leaves
the waiting words alone cites no rule: the list of them is the model's choice, log entry 3, and so is an input byte as an
instruction of its own, log entry 4. -/
def Obligations.EveryAnswerIsAResponseRecord : Prop :=
  ∀ (i : Instr) (s t : State), exec i s = .next t →
    t.port = s.port ∧
    ∃ r, t.resp = some r ∧ r.out.length ≤ 12 ∧
      (r.acc = false ↔ r.st = .control ∨ r.st = .invalid ∨ r.st = .illegal) ∧
      (r.st ≠ .ok → r.out = [] ∧ r.val = 0)

/-- 20_memory.md R57: CLS, ENCLEN, DECMAX, RDREG (of a register that exists) and NOP change no state, and they and a DECB
that stops may be repeated: the same response and the same state. -/
def Obligations.RepeatableCommandsRepeat : Prop :=
  (∀ (i : Instr) (s : State),
    (i = .nop ∨ (∃ b, i = .cls b) ∨ (∃ x, i = .enclen x) ∨ (∃ x, i = .decmax x) ∨ (∃ r, i = .rdreg r ∧ r.toNat < 5)) →
    ∃ r, exec i s = .next { s with resp := some r } ∧
      exec i { s with resp := some r } = .next { s with resp := some r }) ∧
  (∀ (b : Byte) (s t : State), Spec.classByRanges b.toNat = 0x80 ∨ Spec.classByRanges b.toNat = 0xC0 →
    exec (.decb b) s = .next t →
    t = { s with err := t.err, last := t.last, resp := t.resp } ∧ exec (.decb b) t = .next t)

/-! ### Tables -/

/-- 00_scope.md R7, R8, R9, R10: the values of `BASE`, `MAG`, `DIGITS`, `BYTES`, `DMAX10` and `LIM10`, and what those rules
say of them: the recurrence of `MAG`, five bases 57 and six 56, how far `MAG[11]` exceeds 2^64, that `BYTES` inverts
`DIGITS`, and how the two constants come from `MAG[10]`. -/
def Obligations.TablesHoldTheSpecsValues : Prop :=
  (base = [57, 56, 57, 56, 57, 56, 56, 57, 56, 57, 56] ∧ base.count 57 = 5 ∧ base.count 56 = 6) ∧
  (mags = [1, 57, 3192, 181944, 10188864, 580765248, 32522853888, 1821279817728, 103812949610496, 5813525178187776,
      331370935156703232, 18556772368775380992] ∧
    mag 0 = 1 ∧ (∀ i < 11, mag (i + 1) = mag i * base.getD i 0) ∧
    mag 11 = 57 ^ 5 * 56 ^ 6 ∧ mag 11 = 2 ^ 64 + 110028295065829376) ∧
  ((List.range 9).map digitsOf = [0, 2, 3, 5, 6, 7, 9, 10, 11] ∧
    (List.range 12).map bytesOf =
      [some 0, none, some 1, some 2, none, some 3, some 4, some 5, none, some 6, some 7, some 8] ∧
    (∀ n ≤ 8, ∀ k ≤ 11, bytesOf k = some n ↔ k = digitsOf n)) ∧
  (dmax10 = 55 ∧ dmax10 = (2 ^ 64 - 1) / mag 10 ∧ dmax10 = base.getD 10 0 - 1 ∧
    55 * mag 10 = 18225401433618677760 ∧ lim10 = 2 ^ 64 - 1 - 55 * mag 10 ∧
    lim10 = 221342640090873855 ∧ lim10 = 0x3125DF55C437FFF)
end

