-- ==== Sys2Proof/Laws/State.lean ====
section
/-! SUPPORT. What every register write of Machine/Ops.lean leaves in every field: one lemma per field per write. -/

namespace Sys2Proof.Machine

open Sys2Proof

@[simp] theorem State.withPend_pend (s : State) (v : Vector SymWord 10) : (s.withPend v).pend = v := rfl
@[simp] theorem State.withPend_cnt (s : State) (v : Vector SymWord 10) : (s.withPend v).cnt = s.cnt := rfl
@[simp] theorem State.withPend_consumed (s : State) (v : Vector SymWord 10) : (s.withPend v).consumed = s.consumed := rfl
@[simp] theorem State.withPend_produced (s : State) (v : Vector SymWord 10) : (s.withPend v).produced = s.produced := rfl
@[simp] theorem State.withPend_err (s : State) (v : Vector SymWord 10) : (s.withPend v).err = s.err := rfl
@[simp] theorem State.withPend_last (s : State) (v : Vector SymWord 10) : (s.withPend v).last = s.last := rfl
@[simp] theorem State.withPend_gcnt (s : State) (v : Vector SymWord 10) : (s.withPend v).gcnt = s.gcnt := rfl
@[simp] theorem State.withPend_port (s : State) (v : Vector SymWord 10) : (s.withPend v).port = s.port := rfl
@[simp] theorem State.withPend_resp (s : State) (v : Vector SymWord 10) : (s.withPend v).resp = s.resp := rfl

@[simp] theorem State.withCnt_pend (s : State) (v : BitVec 4) : (s.withCnt v).pend = s.pend := rfl
@[simp] theorem State.withCnt_cnt (s : State) (v : BitVec 4) : (s.withCnt v).cnt = v := rfl
@[simp] theorem State.withCnt_consumed (s : State) (v : BitVec 4) : (s.withCnt v).consumed = s.consumed := rfl
@[simp] theorem State.withCnt_produced (s : State) (v : BitVec 4) : (s.withCnt v).produced = s.produced := rfl
@[simp] theorem State.withCnt_err (s : State) (v : BitVec 4) : (s.withCnt v).err = s.err := rfl
@[simp] theorem State.withCnt_last (s : State) (v : BitVec 4) : (s.withCnt v).last = s.last := rfl
@[simp] theorem State.withCnt_gcnt (s : State) (v : BitVec 4) : (s.withCnt v).gcnt = s.gcnt := rfl
@[simp] theorem State.withCnt_port (s : State) (v : BitVec 4) : (s.withCnt v).port = s.port := rfl
@[simp] theorem State.withCnt_resp (s : State) (v : BitVec 4) : (s.withCnt v).resp = s.resp := rfl

@[simp] theorem State.withConsumed_pend (s : State) (v : BitVec 64) : (s.withConsumed v).pend = s.pend := rfl
@[simp] theorem State.withConsumed_cnt (s : State) (v : BitVec 64) : (s.withConsumed v).cnt = s.cnt := rfl
@[simp] theorem State.withConsumed_consumed (s : State) (v : BitVec 64) : (s.withConsumed v).consumed = v := rfl
@[simp] theorem State.withConsumed_produced (s : State) (v : BitVec 64) : (s.withConsumed v).produced = s.produced := rfl
@[simp] theorem State.withConsumed_err (s : State) (v : BitVec 64) : (s.withConsumed v).err = s.err := rfl
@[simp] theorem State.withConsumed_last (s : State) (v : BitVec 64) : (s.withConsumed v).last = s.last := rfl
@[simp] theorem State.withConsumed_gcnt (s : State) (v : BitVec 64) : (s.withConsumed v).gcnt = s.gcnt := rfl
@[simp] theorem State.withConsumed_port (s : State) (v : BitVec 64) : (s.withConsumed v).port = s.port := rfl
@[simp] theorem State.withConsumed_resp (s : State) (v : BitVec 64) : (s.withConsumed v).resp = s.resp := rfl

@[simp] theorem State.withProduced_pend (s : State) (v : BitVec 64) : (s.withProduced v).pend = s.pend := rfl
@[simp] theorem State.withProduced_cnt (s : State) (v : BitVec 64) : (s.withProduced v).cnt = s.cnt := rfl
@[simp] theorem State.withProduced_consumed (s : State) (v : BitVec 64) : (s.withProduced v).consumed = s.consumed := rfl
@[simp] theorem State.withProduced_produced (s : State) (v : BitVec 64) : (s.withProduced v).produced = v := rfl
@[simp] theorem State.withProduced_err (s : State) (v : BitVec 64) : (s.withProduced v).err = s.err := rfl
@[simp] theorem State.withProduced_last (s : State) (v : BitVec 64) : (s.withProduced v).last = s.last := rfl
@[simp] theorem State.withProduced_gcnt (s : State) (v : BitVec 64) : (s.withProduced v).gcnt = s.gcnt := rfl
@[simp] theorem State.withProduced_port (s : State) (v : BitVec 64) : (s.withProduced v).port = s.port := rfl
@[simp] theorem State.withProduced_resp (s : State) (v : BitVec 64) : (s.withProduced v).resp = s.resp := rfl

@[simp] theorem State.withErr_pend (s : State) (v : BitVec 5) : (s.withErr v).pend = s.pend := rfl
@[simp] theorem State.withErr_cnt (s : State) (v : BitVec 5) : (s.withErr v).cnt = s.cnt := rfl
@[simp] theorem State.withErr_consumed (s : State) (v : BitVec 5) : (s.withErr v).consumed = s.consumed := rfl
@[simp] theorem State.withErr_produced (s : State) (v : BitVec 5) : (s.withErr v).produced = s.produced := rfl
@[simp] theorem State.withErr_err (s : State) (v : BitVec 5) : (s.withErr v).err = v := rfl
@[simp] theorem State.withErr_last (s : State) (v : BitVec 5) : (s.withErr v).last = s.last := rfl
@[simp] theorem State.withErr_gcnt (s : State) (v : BitVec 5) : (s.withErr v).gcnt = s.gcnt := rfl
@[simp] theorem State.withErr_port (s : State) (v : BitVec 5) : (s.withErr v).port = s.port := rfl
@[simp] theorem State.withErr_resp (s : State) (v : BitVec 5) : (s.withErr v).resp = s.resp := rfl

@[simp] theorem State.withLast_pend (s : State) (v : BitVec 3) : (s.withLast v).pend = s.pend := rfl
@[simp] theorem State.withLast_cnt (s : State) (v : BitVec 3) : (s.withLast v).cnt = s.cnt := rfl
@[simp] theorem State.withLast_consumed (s : State) (v : BitVec 3) : (s.withLast v).consumed = s.consumed := rfl
@[simp] theorem State.withLast_produced (s : State) (v : BitVec 3) : (s.withLast v).produced = s.produced := rfl
@[simp] theorem State.withLast_err (s : State) (v : BitVec 3) : (s.withLast v).err = s.err := rfl
@[simp] theorem State.withLast_last (s : State) (v : BitVec 3) : (s.withLast v).last = v := rfl
@[simp] theorem State.withLast_gcnt (s : State) (v : BitVec 3) : (s.withLast v).gcnt = s.gcnt := rfl
@[simp] theorem State.withLast_port (s : State) (v : BitVec 3) : (s.withLast v).port = s.port := rfl
@[simp] theorem State.withLast_resp (s : State) (v : BitVec 3) : (s.withLast v).resp = s.resp := rfl

@[simp] theorem State.withGcnt_pend (s : State) (v : BitVec 4) : (s.withGcnt v).pend = s.pend := rfl
@[simp] theorem State.withGcnt_cnt (s : State) (v : BitVec 4) : (s.withGcnt v).cnt = s.cnt := rfl
@[simp] theorem State.withGcnt_consumed (s : State) (v : BitVec 4) : (s.withGcnt v).consumed = s.consumed := rfl
@[simp] theorem State.withGcnt_produced (s : State) (v : BitVec 4) : (s.withGcnt v).produced = s.produced := rfl
@[simp] theorem State.withGcnt_err (s : State) (v : BitVec 4) : (s.withGcnt v).err = s.err := rfl
@[simp] theorem State.withGcnt_last (s : State) (v : BitVec 4) : (s.withGcnt v).last = s.last := rfl
@[simp] theorem State.withGcnt_gcnt (s : State) (v : BitVec 4) : (s.withGcnt v).gcnt = v := rfl
@[simp] theorem State.withGcnt_port (s : State) (v : BitVec 4) : (s.withGcnt v).port = s.port := rfl
@[simp] theorem State.withGcnt_resp (s : State) (v : BitVec 4) : (s.withGcnt v).resp = s.resp := rfl

@[simp] theorem State.withPort_pend (s : State) (v : List PortWord) : (s.withPort v).pend = s.pend := rfl
@[simp] theorem State.withPort_cnt (s : State) (v : List PortWord) : (s.withPort v).cnt = s.cnt := rfl
@[simp] theorem State.withPort_consumed (s : State) (v : List PortWord) : (s.withPort v).consumed = s.consumed := rfl
@[simp] theorem State.withPort_produced (s : State) (v : List PortWord) : (s.withPort v).produced = s.produced := rfl
@[simp] theorem State.withPort_err (s : State) (v : List PortWord) : (s.withPort v).err = s.err := rfl
@[simp] theorem State.withPort_last (s : State) (v : List PortWord) : (s.withPort v).last = s.last := rfl
@[simp] theorem State.withPort_gcnt (s : State) (v : List PortWord) : (s.withPort v).gcnt = s.gcnt := rfl
@[simp] theorem State.withPort_port (s : State) (v : List PortWord) : (s.withPort v).port = v := rfl
@[simp] theorem State.withPort_resp (s : State) (v : List PortWord) : (s.withPort v).resp = s.resp := rfl

@[simp] theorem State.withResp_pend (s : State) (v : Option Response) : (s.withResp v).pend = s.pend := rfl
@[simp] theorem State.withResp_cnt (s : State) (v : Option Response) : (s.withResp v).cnt = s.cnt := rfl
@[simp] theorem State.withResp_consumed (s : State) (v : Option Response) : (s.withResp v).consumed = s.consumed := rfl
@[simp] theorem State.withResp_produced (s : State) (v : Option Response) : (s.withResp v).produced = s.produced := rfl
@[simp] theorem State.withResp_err (s : State) (v : Option Response) : (s.withResp v).err = s.err := rfl
@[simp] theorem State.withResp_last (s : State) (v : Option Response) : (s.withResp v).last = s.last := rfl
@[simp] theorem State.withResp_gcnt (s : State) (v : Option Response) : (s.withResp v).gcnt = s.gcnt := rfl
@[simp] theorem State.withResp_port (s : State) (v : Option Response) : (s.withResp v).port = s.port := rfl
@[simp] theorem State.withResp_resp (s : State) (v : Option Response) : (s.withResp v).resp = v := rfl

end Sys2Proof.Machine
end

