-- ==== Sys2Proof/Laws/Ops.lean ====
section
/-! SUPPORT. What each shared operation of Machine/Ops.lean can do, said once. -/

namespace Sys2Proof.Machine

open Sys2Proof

/-! ### Responses and exceptions -/

theorem respond_eq (st : Status) (acc : Bool) (out : List Byte) (val : ValWord) (s : State) :
    respond st acc out val s = { s with resp := some ⟨st, acc, out, val⟩ } := rfl

theorem respondOk_eq (out : List Byte) (val : ValWord) (s : State) :
    respondOk out val s = { s with resp := some ⟨.ok, true, out, val⟩ } := rfl

theorem raise_eq (e : Exception) (s : State) :
    raise e s = { s with
      err := s.err ||| exceptionFlag e
      last := exceptionLast e s.last
      resp := some ⟨exceptionStatus e, exceptionAcc e, [], 0⟩ } := rfl

/-! ### The port -/

theorem fetch_eq_none (s : State) : fetch s = none ↔ s.port = [] := by
  unfold fetch; split <;> simp_all

theorem fetch_eq_some (s : State) (p : PortWord) (t : State) :
    fetch s = some (p, t) ↔ ∃ rest, s.port = p :: rest ∧ t = s.withPort rest := by
  unfold fetch
  split
  · simp_all
  · rename_i q rest h
    simp only [h, Option.some.injEq, Prod.mk.injEq, List.cons.injEq]
    exact ⟨fun ⟨h1, h2⟩ => ⟨rest, ⟨h1, rfl⟩, h2.symm⟩, fun ⟨_, ⟨h1, h2⟩, h3⟩ => ⟨h1, by rw [h3, h2]⟩⟩

theorem fetch_present (p : PortWord) (s : State) : fetch (present p s) = some (p, s) := rfl

/-! ### The framer -/

theorem emitGroup_eq (sv : List Nat) (s : State) :
    emitGroup sv s = { s with
      gcnt := if s.gcnt = 8#4 then 1#4 else s.gcnt + 1
      resp := some ⟨.ok, true, (if s.gcnt = 8#4 then [0x0A#8] else []) ++ symbolText sv, 0⟩ } := by
  unfold emitGroup
  by_cases h : s.gcnt = 8#4
  · simp [h, lineGroups, respondOk_eq, State.withGcnt, config]
  · simp [h, lineGroups, respondOk_eq, State.withGcnt]

/-! ### The decoder -/

theorem startStream_eq (s : State) :
    startStream s = { s with cnt := 0, consumed := 0, produced := 0, err := s.err &&& 0b10000, last := 0 } := rfl

theorem outputBytes_eq (n v : Nat) (s : State) :
    outputBytes n v s = { s with
      produced := s.produced + BitVec.ofNat 64 n
      last := 0
      resp := some ⟨.ok, true, bytesLe n v, 0⟩ } := rfl

theorem decoderQuiet_eq (s : State) :
    decoderQuiet s = { s with last := 0, resp := some ⟨.ok, true, [], 0⟩ } := rfl

theorem skipDelimiter_eq (s : State) :
    skipDelimiter s = { s with consumed := s.consumed + 1, last := 0, resp := some ⟨.ok, true, [], 0⟩ } := rfl

theorem appendSymbol_eq (v : Nat) (s : State) :
    appendSymbol v s = { s with
      pend := s.pend.setIfInBounds s.cnt.toNat (BitVec.ofNat 6 v)
      cnt := s.cnt + 1
      consumed := s.consumed + 1
      last := 0
      resp := some ⟨.ok, true, [], 0⟩ } := rfl

theorem completeGroup_overflow (v : Nat) (s : State)
    (h : gdec (s.pend.toList.map BitVec.toNat ++ [v]) = .overflow) :
    completeGroup v s = { s with
      cnt := 0
      consumed := s.consumed + 1
      err := s.err ||| 0b00100
      last := 3
      resp := some ⟨.overflow, true, [], 0⟩ } := by
  unfold completeGroup; rw [h]; rfl

theorem completeGroup_value (v x : Nat) (s : State)
    (h : gdec (s.pend.toList.map BitVec.toNat ++ [v]) = .value x) :
    completeGroup v s = { s with
      cnt := 0
      consumed := s.consumed + 1
      produced := s.produced + 8
      last := 0
      resp := some ⟨.ok, true, bytesLe 8 x, 0⟩ } := by
  unfold completeGroup; rw [h]; rfl

theorem acceptDigit_append (v : Nat) (s : State) (h : s.cnt.toNat ≤ 9) :
    acceptDigit v s = appendSymbol v s := by
  unfold acceptDigit; rw [if_pos h]

theorem acceptDigit_complete (v : Nat) (s : State) (h : 9 < s.cnt.toNat) :
    acceptDigit v s = completeGroup v s := by
  unfold acceptDigit; rw [if_neg (by omega)]

/-- Everything that the end of a stream can do (R197). -/
theorem drain_cases (s : State) :
    (s.cnt.toNat = 0 ∧ drain s = .next { s with cnt := 0, last := 0, resp := some ⟨.ok, true, [], 0⟩ }) ∨
    (10 < s.cnt.toNat ∧ drain s = .fault .pendingBeyondBuffer) ∨
    (0 < s.cnt.toNat ∧ s.cnt.toNat ≤ 10 ∧
      ((tdec (pendingSymbols s) = .truncated ∧ drain s = .next { s with
          cnt := 0, err := s.err ||| 0b01000, last := 4, resp := some ⟨.truncated, true, [], 0⟩ }) ∨
       (tdec (pendingSymbols s) = .overflow ∧ drain s = .next { s with
          cnt := 0, err := s.err ||| 0b00100, last := 3, resp := some ⟨.overflow, true, [], 0⟩ }) ∨
       (∃ n v, tdec (pendingSymbols s) = .value n v ∧ drain s = .next { s with
          cnt := 0, produced := s.produced + BitVec.ofNat 64 n, last := 0,
          resp := some ⟨.ok, true, bytesLe n v, 0⟩ }))) := by
  unfold drain
  by_cases h0 : s.cnt.toNat = 0
  · exact .inl ⟨h0, by simp only [h0, if_true]; rfl⟩
  · by_cases h1 : 10 < s.cnt.toNat
    · exact .inr (.inl ⟨h1, by simp only [h0, h1, if_true, if_false]⟩)
    · refine .inr (.inr ⟨by omega, by omega, ?_⟩)
      simp only [h0, h1, if_false]
      cases h : tdec (pendingSymbols s) with
      | truncated => exact .inl ⟨rfl, rfl⟩
      | overflow => exact .inr (.inl ⟨rfl, rfl⟩)
      | value n v => exact .inr (.inr ⟨n, v, rfl, rfl⟩)

/-- The registers that exist are those of R30. -/
theorem readRegister_isSome (r : BitVec 4) (s : State) : (readRegister r s).isSome = decide (r.toNat < 5) := by
  have h : ∀ n : Nat, n = r.toNat → (readRegister r s).isSome = decide (n < 5) := by
    intro n hn
    unfold readRegister
    rw [← hn]
    match n with
    | 0 | 1 | 2 | 3 | 4 => rfl
    | n + 5 => simp
  exact h _ rfl

end Sys2Proof.Machine
end

