-- ==== Sys2Proof/Laws/Exec.lean ====
section
/-! SUPPORT. Everything that `exec` can do, said once: which shared operation each instruction comes down to. -/

namespace Sys2Proof.Machine

open Sys2Proof

/-- The classifier's symbol values are those of the alphabet (R108). -/
theorem classify_digit_lt (b : Byte) (v : Nat) (h : classify b = .digit v) : v < 57 := by
  have key : ∀ b : Byte, (match classify b with | .digit v => decide (v < 57) | _ => true) = true := by
    decide +kernel
  have := key b
  rw [h] at this
  simpa using this

/-- `CLASS[ALPHABET[v]]` is Digit v (R102). -/
theorem classify_symbolByte (v : Nat) (h : v < 57) : classify (symbolByte v) = .digit v := by
  have key : ∀ v : Fin 57, classify (symbolByte v.val) = .digit v.val := by decide +kernel
  exact key ⟨v, h⟩

theorem length_digitInstrs : digitInstrs.length = 57 := rfl

/-- SYM.DIGIT_v accepts the symbol value v, for each v = 0..56. -/
theorem exec_digitInstrs (v : Nat) (i : Instr) (h : digitInstrs[v]? = some i) (s : State) :
    v < 57 ∧ exec i s = .next (acceptDigit v s) := by
  have hv : v < 57 := by
    have := (List.getElem?_eq_some_iff.mp h).1
    rwa [length_digitInstrs] at this
  refine ⟨hv, ?_⟩
  interval_cases v <;> (simp only [digitInstrs] at h; cases h; rfl)

/-- An instruction of a text: what it comes down to, by the class of the byte (R192). -/
inductive TextEffect (s : State) : Result → Prop where
  | control : TextEffect s (.next (raise .control s))
  | invalid : TextEffect s (.next (raise .invalid s))
  | delimiter : TextEffect s (.next (skipDelimiter s))
  | digit (v : Nat) (h : v < 57) : TextEffect s (.next (acceptDigit v s))

theorem execDecb_effect (b : Byte) (s : State) : TextEffect s (exec (.decb b) s) := by
  simp only [exec, execDecb]
  cases h : classify b with
  | digit v => exact .digit v (classify_digit_lt b v h)
  | delimiter => exact .delimiter
  | control => exact .control
  | invalid => exact .invalid

theorem exec_digit_effect (i : Instr) (s : State) (h : i ∈ digitInstrs) : TextEffect s (exec i s) := by
  obtain ⟨v, hv⟩ := List.mem_iff_getElem?.mp h
  obtain ⟨h1, h2⟩ := exec_digitInstrs v i hv s
  rw [h2]
  exact .digit v h1

/-- Which kind of instruction `i` is, and the shared operation that `exec i s` comes down to. -/
inductive ExecEffect (s : State) : Instr → Result → Prop where
  | rst : ExecEffect s .rst (execRst s)
  | dinit : ExecEffect s .dinit (.next (respondOk [] 0 (startStream s)))
  | einit : ExecEffect s .einit (.next (respondOk [] 0 (s.withGcnt 0)))
  | enc8 (x : DataWord) : ExecEffect s (.enc8 x) (.next (emitGroup (genc x.toNat) s))
  | enct (n : BitVec 3) (din : DataWord) (h : n.toNat ≠ 0) :
    ExecEffect s (.enct n din) (.next (emitGroup (tenc n.toNat (tailOperand n din)) s))
  | enctNone (n : BitVec 3) (din : DataWord) (h : n.toNat = 0) :
    ExecEffect s (.enct n din) (.next (respondOk [] 0 s))
  | nop : ExecEffect s .nop (.next (respondOk [] 0 s))
  | cls (b : Byte) (val : ValWord) : ExecEffect s (.cls b) (.next (respondOk [] val s))
  | enclen (x : DataWord) (val : ValWord) : ExecEffect s (.enclen x) (.next (respondOk [] val s))
  | decmax (x : DataWord) (val : ValWord) : ExecEffect s (.decmax x) (.next (respondOk [] val s))
  | rdreg (r : BitVec 4) (val : ValWord) (h : r.toNat < 5) (hv : readRegister r s = some val) :
    ExecEffect s (.rdreg r) (.next (respondOk [] val s))
  | rdregNone (r : BitVec 4) (h : 5 ≤ r.toNat) : ExecEffect s (.rdreg r) (.next (raise .illegal s))
  | flush : ExecEffect s .flush (drain s)
  | decb (b : Byte) (o : Result) (h : TextEffect s o) : ExecEffect s (.decb b) o
  | symCtrl (b : Byte) : ExecEffect s (.symCtrl b) (.next (raise .control s))
  | symDelim (b : Byte) : ExecEffect s (.symDelim b) (.next (skipDelimiter s))
  | symInval (b : Byte) : ExecEffect s (.symInval b) (.next (raise .invalid s))
  | digit (i : Instr) (v : Nat) (h : digitInstrs[v]? = some i) (hv : v < 57) :
    ExecEffect s i (.next (acceptDigit v s))

theorem exec_effect_digit (i : Instr) (s : State) (h : digitInstrs.contains i = true) :
    ExecEffect s i (exec i s) := by
  obtain ⟨v, h⟩ := List.mem_iff_getElem?.mp (List.contains_iff_mem.mp h)
  obtain ⟨h1, h2⟩ := exec_digitInstrs v i h s
  rw [h2]
  exact .digit i v h h1

/-- Everything that `exec` can do. -/
theorem exec_effect (i : Instr) (s : State) : ExecEffect s i (exec i s) := by
  cases i with
  | nop => exact .nop
  | rst => exact .rst
  | dinit => exact .dinit
  | einit => exact .einit
  | cls b => exact .cls b _
  | enc8 x => exact .enc8 x
  | enct n din =>
    simp only [exec, execEnct]
    by_cases h : n.toNat = 0
    · rw [if_pos h]; exact .enctNone n din h
    · rw [if_neg h]; exact .enct n din h
  | enclen x => exact .enclen x _
  | decmax x => exact .decmax x _
  | decb b => exact .decb b _ (execDecb_effect b s)
  | flush => exact .flush
  | rdreg r =>
    simp only [exec, execRdreg]
    have h := readRegister_isSome r s
    cases hr : readRegister r s with
    | some v => rw [hr] at h; exact .rdreg r v (by simpa using h.symm) hr
    | none => rw [hr] at h; exact .rdregNone r (by simpa using h.symm)
  | symCtrl b => exact .symCtrl b
  | symDelim b => exact .symDelim b
  | symInval b => exact .symInval b
  | _ => exact exec_effect_digit _ s (by rfl)

/-- What waits on the port neither steers an instruction nor is changed by it (R58). -/
theorem exec_withPort (i : Instr) (s : State) (p : List PortWord) :
    exec i (s.withPort p) =
      match exec i s with
      | .next t => .next (t.withPort p)
      | .fault r => .fault r
      | .refused r => .refused r := by
  have digit : ∀ v, acceptDigit v (s.withPort p) = (acceptDigit v s).withPort p := by
    intro v
    by_cases h : s.cnt.toNat ≤ 9
    · have ht : (s.withPort p).cnt.toNat ≤ 9 := h
      rw [acceptDigit_append v s h, acceptDigit_append v (s.withPort p) ht]; rfl
    · have hs : 9 < s.cnt.toNat := by omega
      have ht : 9 < (s.withPort p).cnt.toNat := hs
      rw [acceptDigit_complete v s hs, acceptDigit_complete v (s.withPort p) ht]
      unfold completeGroup
      simp only [State.withPort_pend]
      split <;> rfl
  cases i
  case decb b => simp only [exec, execDecb]; split <;> simp [digit] <;> rfl
  case flush =>
    simp only [exec, execFlush]
    unfold drain
    simp only [State.withPort_cnt, show pendingSymbols (s.withPort p) = pendingSymbols s from rfl]
    split
    · rfl
    · split
      · rfl
      · split <;> rfl
  case enct n din => simp only [exec, execEnct]; split <;> rfl
  case rdreg r =>
    simp only [exec, execRdreg, show readRegister r (s.withPort p) = readRegister r s from rfl]
    split <;> rfl
  all_goals first | rfl | exact congrArg Host.Outcome.next (digit _)

end Sys2Proof.Machine
end

