-- ==== Sys2Proof/Laws/PerInstr.lean ====
section
/-! SUPPORT. Statements about every instruction as syntax, one lemma per constructor. -/

namespace Sys2Proof.Laws

open Sys2Proof

/-- A row of spec/opcode_table.json: its width in bits, its match and its mask. -/
structure Row where
  nbits : Nat
  value : Nat
  mask : Nat
deriving DecidableEq, Repr

/-- The row of an instruction; for the instructions that keep an input byte, the row of that byte. -/
def rowOf : Instr → Row
  | .nop => ⟨16, 0x0000, 0xFFFF⟩
  | .rst => ⟨16, 0x1000, 0xFFFF⟩
  | .dinit => ⟨16, 0x2000, 0xFFFF⟩
  | .einit => ⟨16, 0x3000, 0xFFFF⟩
  | .cls _ => ⟨16, 0x4000, 0xFF00⟩
  | .enc8 _ => ⟨16, 0x5000, 0xFFFF⟩
  | .enct _ _ => ⟨16, 0x6000, 0xF8FF⟩
  | .enclen _ => ⟨16, 0x7000, 0xFFFF⟩
  | .decmax _ => ⟨16, 0x8000, 0xFFFF⟩
  | .decb _ => ⟨16, 0x9000, 0xFF00⟩
  | .flush => ⟨16, 0xA000, 0xFFFF⟩
  | .rdreg _ => ⟨16, 0xB000, 0xFFF0⟩
  | .symCtrl b => ⟨8, b.toNat, 0xFF⟩
  | .symDelim b => ⟨8, b.toNat, 0xFF⟩
  | .symInval b => ⟨8, b.toNat, 0xFF⟩
  | .symDigit0 => ⟨8, 0x32, 0xFF⟩
  | .symDigit1 => ⟨8, 0x33, 0xFF⟩
  | .symDigit2 => ⟨8, 0x34, 0xFF⟩
  | .symDigit3 => ⟨8, 0x35, 0xFF⟩
  | .symDigit4 => ⟨8, 0x36, 0xFF⟩
  | .symDigit5 => ⟨8, 0x37, 0xFF⟩
  | .symDigit6 => ⟨8, 0x38, 0xFF⟩
  | .symDigit7 => ⟨8, 0x39, 0xFF⟩
  | .symDigit8 => ⟨8, 0x41, 0xFF⟩
  | .symDigit9 => ⟨8, 0x42, 0xFF⟩
  | .symDigit10 => ⟨8, 0x43, 0xFF⟩
  | .symDigit11 => ⟨8, 0x44, 0xFF⟩
  | .symDigit12 => ⟨8, 0x45, 0xFF⟩
  | .symDigit13 => ⟨8, 0x46, 0xFF⟩
  | .symDigit14 => ⟨8, 0x47, 0xFF⟩
  | .symDigit15 => ⟨8, 0x48, 0xFF⟩
  | .symDigit16 => ⟨8, 0x4A, 0xFF⟩
  | .symDigit17 => ⟨8, 0x4B, 0xFF⟩
  | .symDigit18 => ⟨8, 0x4C, 0xFF⟩
  | .symDigit19 => ⟨8, 0x4D, 0xFF⟩
  | .symDigit20 => ⟨8, 0x4E, 0xFF⟩
  | .symDigit21 => ⟨8, 0x50, 0xFF⟩
  | .symDigit22 => ⟨8, 0x51, 0xFF⟩
  | .symDigit23 => ⟨8, 0x52, 0xFF⟩
  | .symDigit24 => ⟨8, 0x53, 0xFF⟩
  | .symDigit25 => ⟨8, 0x54, 0xFF⟩
  | .symDigit26 => ⟨8, 0x55, 0xFF⟩
  | .symDigit27 => ⟨8, 0x56, 0xFF⟩
  | .symDigit28 => ⟨8, 0x57, 0xFF⟩
  | .symDigit29 => ⟨8, 0x58, 0xFF⟩
  | .symDigit30 => ⟨8, 0x59, 0xFF⟩
  | .symDigit31 => ⟨8, 0x5A, 0xFF⟩
  | .symDigit32 => ⟨8, 0x61, 0xFF⟩
  | .symDigit33 => ⟨8, 0x62, 0xFF⟩
  | .symDigit34 => ⟨8, 0x63, 0xFF⟩
  | .symDigit35 => ⟨8, 0x64, 0xFF⟩
  | .symDigit36 => ⟨8, 0x65, 0xFF⟩
  | .symDigit37 => ⟨8, 0x66, 0xFF⟩
  | .symDigit38 => ⟨8, 0x67, 0xFF⟩
  | .symDigit39 => ⟨8, 0x68, 0xFF⟩
  | .symDigit40 => ⟨8, 0x69, 0xFF⟩
  | .symDigit41 => ⟨8, 0x6A, 0xFF⟩
  | .symDigit42 => ⟨8, 0x6B, 0xFF⟩
  | .symDigit43 => ⟨8, 0x6D, 0xFF⟩
  | .symDigit44 => ⟨8, 0x6E, 0xFF⟩
  | .symDigit45 => ⟨8, 0x6F, 0xFF⟩
  | .symDigit46 => ⟨8, 0x70, 0xFF⟩
  | .symDigit47 => ⟨8, 0x71, 0xFF⟩
  | .symDigit48 => ⟨8, 0x72, 0xFF⟩
  | .symDigit49 => ⟨8, 0x73, 0xFF⟩
  | .symDigit50 => ⟨8, 0x74, 0xFF⟩
  | .symDigit51 => ⟨8, 0x75, 0xFF⟩
  | .symDigit52 => ⟨8, 0x76, 0xFF⟩
  | .symDigit53 => ⟨8, 0x77, 0xFF⟩
  | .symDigit54 => ⟨8, 0x78, 0xFF⟩
  | .symDigit55 => ⟨8, 0x79, 0xFF⟩
  | .symDigit56 => ⟨8, 0x7A, 0xFF⟩

/-- The encoder agrees with the opcode table: a well-formed instruction's word, its bits numbered as the table
numbers them (`DIN` above them: log entry 14), satisfies its own row's `(word and mask) = match`. -/
def RowMatch.Statement (i : Instr) : Prop :=
  i.wellFormed = true →
    ∃ w, encode i = tableWord (rowOf i).nbits w ∧ w &&& (rowOf i).mask = (rowOf i).value

theorem byte_and_mask (b : Byte) : b.toNat &&& 0xFF = b.toNat := by
  rw [show (0xFF : Nat) = 2 ^ 8 - 1 from rfl, Nat.and_two_pow_sub_one_eq_mod]
  exact Nat.mod_eq_of_lt b.isLt

/-- A command's row test looks at the command word alone, below any operand `DIN`. -/
theorem command_row (cw : CmdWord) (din : DataWord) (mask value : Nat) (hm : mask < 2 ^ 16)
    (h : cw.toNat &&& mask = value) :
    ∃ w, PortWord.command cw din = tableWord 16 w ∧ w &&& mask = value := by
  refine ⟨cw.toNat + 2 ^ 16 * din.toNat, ?_, ?_⟩
  · have h1 : (cw.toNat + 2 ^ 16 * din.toNat) / 2 ^ 16 = din.toNat := by
      have := cw.isLt
      omega
    simp only [tableWord, show ¬ (16 ≤ 8) by decide, if_false, h1, PortWord.command.injEq]
    refine ⟨BitVec.eq_of_toNat_eq ?_, by simp⟩
    have := cw.isLt
    simp only [BitVec.toNat_ofNat]
    omega
  · have h2 : (cw.toNat + 2 ^ 16 * din.toNat) &&& mask
        = (cw.toNat + 2 ^ 16 * din.toNat) % 2 ^ 16 &&& mask := by
      have : mask = mask &&& (2 ^ 16 - 1) := by
        rw [Nat.and_two_pow_sub_one_eq_mod]
        exact (Nat.mod_eq_of_lt hm).symm
      conv_lhs => rw [this, Nat.and_comm mask, ← Nat.and_assoc, Nat.and_two_pow_sub_one_eq_mod]
    rw [h2, ← h]
    have := cw.isLt
    congr 1
    omega

theorem RowMatch.nop : RowMatch.Statement .nop := fun _ => command_row _ _ _ _ (by decide) (by decide)

theorem RowMatch.rst : RowMatch.Statement .rst := fun _ => command_row _ _ _ _ (by decide) (by decide)

theorem RowMatch.dinit : RowMatch.Statement .dinit := fun _ => command_row _ _ _ _ (by decide) (by decide)

theorem RowMatch.einit : RowMatch.Statement .einit := fun _ => command_row _ _ _ _ (by decide) (by decide)

theorem RowMatch.cls (b : Byte) : RowMatch.Statement (.cls b) :=
  fun _ => command_row (Machine.formatB 4 b) 0 0xFF00 0x4000 (by decide) 
    ((by decide : ∀ b : Byte, (Machine.formatB 4 b).toNat &&& 0xFF00 = 0x4000) b)

theorem RowMatch.enc8 (x : DataWord) : RowMatch.Statement (.enc8 x) :=
  fun _ => command_row (Machine.formatZ 5) x 0xFFFF 0x5000 (by decide) (by decide)

theorem RowMatch.enct (n : BitVec 3) (din : DataWord) : RowMatch.Statement (.enct n din) :=
  fun _ => command_row (Machine.formatT 6 n) din 0xF8FF 0x6000 (by decide) 
    ((by decide : ∀ n : BitVec 3, (Machine.formatT 6 n).toNat &&& 0xF8FF = 0x6000) n)

theorem RowMatch.enclen (x : DataWord) : RowMatch.Statement (.enclen x) :=
  fun _ => command_row (Machine.formatZ 7) x 0xFFFF 0x7000 (by decide) (by decide)

theorem RowMatch.decmax (x : DataWord) : RowMatch.Statement (.decmax x) :=
  fun _ => command_row (Machine.formatZ 8) x 0xFFFF 0x8000 (by decide) (by decide)

theorem RowMatch.decb (b : Byte) : RowMatch.Statement (.decb b) :=
  fun _ => command_row (Machine.formatB 9 b) 0 0xFF00 0x9000 (by decide) 
    ((by decide : ∀ b : Byte, (Machine.formatB 9 b).toNat &&& 0xFF00 = 0x9000) b)

theorem RowMatch.flush : RowMatch.Statement .flush := fun _ => command_row _ _ _ _ (by decide) (by decide)

theorem RowMatch.rdreg (r : BitVec 4) : RowMatch.Statement (.rdreg r) :=
  fun _ => command_row (Machine.formatR 0xB r) 0 0xFFF0 0xB000 (by decide) 
    ((by decide : ∀ r : BitVec 4, (Machine.formatR 0xB r).toNat &&& 0xFFF0 = 0xB000) r)

theorem RowMatch.symCtrl (b : Byte) : RowMatch.Statement (.symCtrl b) :=
  fun _ => ⟨b.toNat, by simp [encode, tableWord, rowOf], byte_and_mask b⟩

theorem RowMatch.symDelim (b : Byte) : RowMatch.Statement (.symDelim b) :=
  fun _ => ⟨b.toNat, by simp [encode, tableWord, rowOf], byte_and_mask b⟩

theorem RowMatch.symInval (b : Byte) : RowMatch.Statement (.symInval b) :=
  fun _ => ⟨b.toNat, by simp [encode, tableWord, rowOf], byte_and_mask b⟩

theorem RowMatch.symDigit0 : RowMatch.Statement .symDigit0 := fun _ => ⟨0x32, by decide, by decide⟩

theorem RowMatch.symDigit1 : RowMatch.Statement .symDigit1 := fun _ => ⟨0x33, by decide, by decide⟩

theorem RowMatch.symDigit2 : RowMatch.Statement .symDigit2 := fun _ => ⟨0x34, by decide, by decide⟩

theorem RowMatch.symDigit3 : RowMatch.Statement .symDigit3 := fun _ => ⟨0x35, by decide, by decide⟩

theorem RowMatch.symDigit4 : RowMatch.Statement .symDigit4 := fun _ => ⟨0x36, by decide, by decide⟩

theorem RowMatch.symDigit5 : RowMatch.Statement .symDigit5 := fun _ => ⟨0x37, by decide, by decide⟩

theorem RowMatch.symDigit6 : RowMatch.Statement .symDigit6 := fun _ => ⟨0x38, by decide, by decide⟩

theorem RowMatch.symDigit7 : RowMatch.Statement .symDigit7 := fun _ => ⟨0x39, by decide, by decide⟩

theorem RowMatch.symDigit8 : RowMatch.Statement .symDigit8 := fun _ => ⟨0x41, by decide, by decide⟩

theorem RowMatch.symDigit9 : RowMatch.Statement .symDigit9 := fun _ => ⟨0x42, by decide, by decide⟩

theorem RowMatch.symDigit10 : RowMatch.Statement .symDigit10 := fun _ => ⟨0x43, by decide, by decide⟩

theorem RowMatch.symDigit11 : RowMatch.Statement .symDigit11 := fun _ => ⟨0x44, by decide, by decide⟩

theorem RowMatch.symDigit12 : RowMatch.Statement .symDigit12 := fun _ => ⟨0x45, by decide, by decide⟩

theorem RowMatch.symDigit13 : RowMatch.Statement .symDigit13 := fun _ => ⟨0x46, by decide, by decide⟩

theorem RowMatch.symDigit14 : RowMatch.Statement .symDigit14 := fun _ => ⟨0x47, by decide, by decide⟩

theorem RowMatch.symDigit15 : RowMatch.Statement .symDigit15 := fun _ => ⟨0x48, by decide, by decide⟩

theorem RowMatch.symDigit16 : RowMatch.Statement .symDigit16 := fun _ => ⟨0x4A, by decide, by decide⟩

theorem RowMatch.symDigit17 : RowMatch.Statement .symDigit17 := fun _ => ⟨0x4B, by decide, by decide⟩

theorem RowMatch.symDigit18 : RowMatch.Statement .symDigit18 := fun _ => ⟨0x4C, by decide, by decide⟩

theorem RowMatch.symDigit19 : RowMatch.Statement .symDigit19 := fun _ => ⟨0x4D, by decide, by decide⟩

theorem RowMatch.symDigit20 : RowMatch.Statement .symDigit20 := fun _ => ⟨0x4E, by decide, by decide⟩

theorem RowMatch.symDigit21 : RowMatch.Statement .symDigit21 := fun _ => ⟨0x50, by decide, by decide⟩

theorem RowMatch.symDigit22 : RowMatch.Statement .symDigit22 := fun _ => ⟨0x51, by decide, by decide⟩

theorem RowMatch.symDigit23 : RowMatch.Statement .symDigit23 := fun _ => ⟨0x52, by decide, by decide⟩

theorem RowMatch.symDigit24 : RowMatch.Statement .symDigit24 := fun _ => ⟨0x53, by decide, by decide⟩

theorem RowMatch.symDigit25 : RowMatch.Statement .symDigit25 := fun _ => ⟨0x54, by decide, by decide⟩

theorem RowMatch.symDigit26 : RowMatch.Statement .symDigit26 := fun _ => ⟨0x55, by decide, by decide⟩

theorem RowMatch.symDigit27 : RowMatch.Statement .symDigit27 := fun _ => ⟨0x56, by decide, by decide⟩

theorem RowMatch.symDigit28 : RowMatch.Statement .symDigit28 := fun _ => ⟨0x57, by decide, by decide⟩

theorem RowMatch.symDigit29 : RowMatch.Statement .symDigit29 := fun _ => ⟨0x58, by decide, by decide⟩

theorem RowMatch.symDigit30 : RowMatch.Statement .symDigit30 := fun _ => ⟨0x59, by decide, by decide⟩

theorem RowMatch.symDigit31 : RowMatch.Statement .symDigit31 := fun _ => ⟨0x5A, by decide, by decide⟩

theorem RowMatch.symDigit32 : RowMatch.Statement .symDigit32 := fun _ => ⟨0x61, by decide, by decide⟩

theorem RowMatch.symDigit33 : RowMatch.Statement .symDigit33 := fun _ => ⟨0x62, by decide, by decide⟩

theorem RowMatch.symDigit34 : RowMatch.Statement .symDigit34 := fun _ => ⟨0x63, by decide, by decide⟩

theorem RowMatch.symDigit35 : RowMatch.Statement .symDigit35 := fun _ => ⟨0x64, by decide, by decide⟩

theorem RowMatch.symDigit36 : RowMatch.Statement .symDigit36 := fun _ => ⟨0x65, by decide, by decide⟩

theorem RowMatch.symDigit37 : RowMatch.Statement .symDigit37 := fun _ => ⟨0x66, by decide, by decide⟩

theorem RowMatch.symDigit38 : RowMatch.Statement .symDigit38 := fun _ => ⟨0x67, by decide, by decide⟩

theorem RowMatch.symDigit39 : RowMatch.Statement .symDigit39 := fun _ => ⟨0x68, by decide, by decide⟩

theorem RowMatch.symDigit40 : RowMatch.Statement .symDigit40 := fun _ => ⟨0x69, by decide, by decide⟩

theorem RowMatch.symDigit41 : RowMatch.Statement .symDigit41 := fun _ => ⟨0x6A, by decide, by decide⟩

theorem RowMatch.symDigit42 : RowMatch.Statement .symDigit42 := fun _ => ⟨0x6B, by decide, by decide⟩

theorem RowMatch.symDigit43 : RowMatch.Statement .symDigit43 := fun _ => ⟨0x6D, by decide, by decide⟩

theorem RowMatch.symDigit44 : RowMatch.Statement .symDigit44 := fun _ => ⟨0x6E, by decide, by decide⟩

theorem RowMatch.symDigit45 : RowMatch.Statement .symDigit45 := fun _ => ⟨0x6F, by decide, by decide⟩

theorem RowMatch.symDigit46 : RowMatch.Statement .symDigit46 := fun _ => ⟨0x70, by decide, by decide⟩

theorem RowMatch.symDigit47 : RowMatch.Statement .symDigit47 := fun _ => ⟨0x71, by decide, by decide⟩

theorem RowMatch.symDigit48 : RowMatch.Statement .symDigit48 := fun _ => ⟨0x72, by decide, by decide⟩

theorem RowMatch.symDigit49 : RowMatch.Statement .symDigit49 := fun _ => ⟨0x73, by decide, by decide⟩

theorem RowMatch.symDigit50 : RowMatch.Statement .symDigit50 := fun _ => ⟨0x74, by decide, by decide⟩

theorem RowMatch.symDigit51 : RowMatch.Statement .symDigit51 := fun _ => ⟨0x75, by decide, by decide⟩

theorem RowMatch.symDigit52 : RowMatch.Statement .symDigit52 := fun _ => ⟨0x76, by decide, by decide⟩

theorem RowMatch.symDigit53 : RowMatch.Statement .symDigit53 := fun _ => ⟨0x77, by decide, by decide⟩

theorem RowMatch.symDigit54 : RowMatch.Statement .symDigit54 := fun _ => ⟨0x78, by decide, by decide⟩

theorem RowMatch.symDigit55 : RowMatch.Statement .symDigit55 := fun _ => ⟨0x79, by decide, by decide⟩

theorem RowMatch.symDigit56 : RowMatch.Statement .symDigit56 := fun _ => ⟨0x7A, by decide, by decide⟩

end Sys2Proof.Laws
end

