-- ==== Sys2Proof/Laws/Radix.lean ====
section
/-! SUPPORT. The small lemmas of the radix codec's definitions: lengths, equations and bounds. -/

namespace Sys2Proof.Machine

open Sys2Proof

@[simp] theorem digitsIn_nil (x : Nat) : digitsIn [] x = [] := rfl

@[simp] theorem digitsIn_cons (b : Nat) (bs : List Nat) (x : Nat) :
    digitsIn (b :: bs) x = x % b :: digitsIn bs (x / b) := rfl

@[simp] theorem length_digitsIn (bs : List Nat) (x : Nat) : (digitsIn bs x).length = bs.length := by
  induction bs generalizing x with
  | nil => rfl
  | cons b bs ih => simp [ih]

theorem length_digits (x k : Nat) (h : k ≤ 11) : (digits x k).length = k := by
  simp [digits, base, h]

@[simp] theorem symbolsAfter_nil (p : Nat) : symbolsAfter p [] = [] := rfl

@[simp] theorem symbolsAfter_cons (p d : Nat) (ds : List Nat) :
    symbolsAfter p (d :: ds) = (p + 1 + d) % 57 :: symbolsAfter ((p + 1 + d) % 57) ds := rfl

@[simp] theorem length_symbolsAfter (p : Nat) (ds : List Nat) : (symbolsAfter p ds).length = ds.length := by
  induction ds generalizing p with
  | nil => rfl
  | cons d ds ih => simp [ih]

@[simp] theorem symbols_nil : symbols [] = [] := rfl

@[simp] theorem symbols_cons (d : Nat) (ds : List Nat) : symbols (d :: ds) = d :: symbolsAfter d ds := rfl

@[simp] theorem length_symbols (ds : List Nat) : (symbols ds).length = ds.length := by
  cases ds <;> simp

theorem symbolsAfter_lt (p : Nat) (ds : List Nat) : ∀ v ∈ symbolsAfter p ds, v < 57 := by
  induction ds generalizing p with
  | nil => simp
  | cons d ds ih =>
    intro v hv
    rw [symbolsAfter_cons, List.mem_cons] at hv
    rcases hv with rfl | hv
    · exact Nat.mod_lt _ (by omega)
    · exact ih _ v hv

@[simp] theorem digitsAfter_nil (p : Nat) : digitsAfter p [] = [] := rfl

@[simp] theorem digitsAfter_cons (p v : Nat) (vs : List Nat) :
    digitsAfter p (v :: vs) = (v + 57 - (p + 1) % 57) % 57 :: digitsAfter v vs := rfl

@[simp] theorem length_digitsAfter (p : Nat) (vs : List Nat) : (digitsAfter p vs).length = vs.length := by
  induction vs generalizing p with
  | nil => rfl
  | cons v vs ih => simp [ih]

@[simp] theorem digitsOfSymbols_nil : digitsOfSymbols [] = [] := rfl

@[simp] theorem digitsOfSymbols_cons (v : Nat) (vs : List Nat) :
    digitsOfSymbols (v :: vs) = v :: digitsAfter v vs := rfl

@[simp] theorem length_digitsOfSymbols (vs : List Nat) : (digitsOfSymbols vs).length = vs.length := by
  cases vs <;> simp

@[simp] theorem length_bytesLe (n v : Nat) : (bytesLe n v).length = n := by simp [bytesLe]

@[simp] theorem length_symbolText (vs : List Nat) : (symbolText vs).length = vs.length := by simp [symbolText]

end Sys2Proof.Machine
end

