-- ==== Sys2Proof/Tests/Slice0.lean ====
section
/-! SUPPORT. Tests. Expected results are the spec's: 95_test_vectors.md (section numbers in the comments) or the rule
named. The last part shows, for each statement with hypotheses, a state and operands that meet them. -/

namespace Sys2Proof.Tests

open Sys2Proof Sys2Proof.Machine

/-- The next state, where there is one. -/
def nextOf : Result → Option State
  | .next t => some t
  | .fault _ => none
  | .refused _ => none

/-- The response after an instruction. -/
def respOf (i : Instr) (s : State) : Option Response := (nextOf (exec i s)).bind fun t => t.resp

/-- A small decoder state: the pending symbol values `q`. -/
def pendingState (q : List Nat) : State :=
  { State.reset with
    pend := Vector.ofFn fun i : Fin 10 => BitVec.ofNat 6 (q.getD i.val 0)
    cnt := BitVec.ofNat 4 q.length }

/-- The response OK with an output. -/
def okOut (out : List Byte) : Option Response := some ⟨.ok, true, out, 0⟩

/-- The response OK with a value. -/
def okVal (v : ValWord) : Option Response := some ⟨.ok, true, [], v⟩

/-! ### Well-formedness: an ill-formed term for each check -/

theorem test_wf_rdreg : (Instr.rdreg 5).wellFormed = false := by decide
theorem test_wf_symCtrl : (Instr.symCtrl 0x0A).wellFormed = false := by decide
theorem test_wf_symDelim : (Instr.symDelim 0x00).wellFormed = false := by decide
theorem test_wf_symInval : (Instr.symInval 0x41).wellFormed = false := by decide

/-- R11, R108: the default configuration, and one that breaks each of its invariants. -/
theorem test_config_wf : config.wf = true := by decide +kernel
theorem test_config_alphabet_repeats :
    Config.alphabetWf { config with alphabet := 0x33 :: config.alphabet.tail } = false := by decide +kernel
theorem test_config_alphabet_glyph :
    Config.alphabetWf { config with alphabet := 0x30 :: config.alphabet.tail } = false := by decide +kernel
theorem test_config_alphabet_control :
    Config.alphabetWf { config with alphabet := 0x01 :: config.alphabet.tail, control := [] } = false := by
  decide +kernel
theorem test_config_delim_count : Config.delimWf { config with delim := [0x0A], control := [] } = false := by
  decide +kernel
theorem test_config_delim_whitespace :
    Config.delimWf { config with delim := 0x21 :: config.delim.tail } = false := by decide +kernel
theorem test_config_line_break : Config.delimWf { config with lineBreak := 0x00 } = false := by decide +kernel
theorem test_config_control_count : Config.controlWf { config with control := [] } = false := by decide +kernel
theorem test_config_control_ascii :
    Config.controlWf { config with control := 0x80 :: config.control.tail } = false := by decide +kernel
theorem test_config_control_is_delim :
    Config.controlWf { config with control := 0x0A :: config.control.tail } = false := by decide +kernel

/-! ### Decoding: words written out from 30_encoding.md R71, R72 and 40_classifier.md R100, R106 -/

theorem test_decode_nop : decode (.command 0x0000 0xFFFFFFFFFFFFFFFF) = .ok .nop := by decide
theorem test_decode_rst : decode (.command 0x1000 0) = .ok .rst := by decide
theorem test_decode_dinit : decode (.command 0x2000 0) = .ok .dinit := by decide
theorem test_decode_einit : decode (.command 0x3000 0) = .ok .einit := by decide
theorem test_decode_cls : decode (.command 0x4041 0) = .ok (.cls 0x41) := by decide
theorem test_decode_enc8 : decode (.command 0x5000 0x81) = .ok (.enc8 0x81) := by decide
theorem test_decode_enct : decode (.command 0x6700 0x81) = .ok (.enct 7 0x81) := by decide
theorem test_decode_enclen : decode (.command 0x7000 0x82) = .ok (.enclen 0x82) := by decide
theorem test_decode_decmax : decode (.command 0x8000 0x16) = .ok (.decmax 0x16) := by decide
theorem test_decode_decb : decode (.command 0x90FF 0) = .ok (.decb 0xFF) := by decide
theorem test_decode_flush : decode (.command 0xA000 0) = .ok .flush := by decide
theorem test_decode_rdreg : decode (.command 0xB004 0) = .ok (.rdreg 4) := by decide
theorem test_decode_symCtrl : decode (.textByte 0x7F) = .ok (.symCtrl 0x7F) := by decide
theorem test_decode_symDelim : decode (.textByte 0x20) = .ok (.symDelim 0x20) := by decide
theorem test_decode_symInval : decode (.textByte 0x6C) = .ok (.symInval 0x6C) := by decide

/-- The bytes of the rows SYM.DIGIT_0 .. SYM.DIGIT_56 of opcode_table.json, in that order. -/
theorem test_decode_symDigits :
    ([0x32, 0x33, 0x34, 0x35, 0x36, 0x37, 0x38, 0x39, 0x41, 0x42, 0x43, 0x44, 0x45, 0x46, 0x47, 0x48, 0x4A, 0x4B,
      0x4C, 0x4D, 0x4E, 0x50, 0x51, 0x52, 0x53, 0x54, 0x55, 0x56, 0x57, 0x58, 0x59, 0x5A, 0x61, 0x62, 0x63, 0x64,
      0x65, 0x66, 0x67, 0x68, 0x69, 0x6A, 0x6B, 0x6D, 0x6E, 0x6F, 0x70, 0x71, 0x72, 0x73, 0x74, 0x75, 0x76, 0x77,
      0x78, 0x79, 0x7A].map (decodeTableWord 8)) = digitInstrs.map some := by decide +kernel

/-- Section 8: illegal command words. -/
theorem test_decode_illegal :
    ([0x0001, 0x1F00, 0x5800, 0x5001, 0x6801, 0x6110, 0x9100, 0x4800, 0xB005, 0xB010, 0xC000, 0xF123, 0xFFFF].all
      fun w => (decodeTableWord 16 w).isNone) = true := by decide +kernel

/-- Bits 79..16 of a word are `DIN`: the model's layout, log entry 14. -/
theorem test_tableWord_din : tableWord 80 0x45000 = .command 0x5000 4 := by decide

/-! ### Instructions -/

/-- R230. -/
theorem test_nop_keeps_last :
    (nextOf (exec .nop { State.reset with last := 3 })).map (fun t => t.last) = some 3 := by decide

/-- R231: RST clears `ERR[4]`; R191: DINIT keeps it. -/
theorem test_rst_clears_ill :
    (nextOf (exec .rst { State.reset with err := 0b11111, gcnt := 5 })).map (fun t => (t.err, t.gcnt)) =
      some (0, 0) := by decide
theorem test_dinit_keeps_ill :
    (nextOf (exec .dinit { State.reset with err := 0b11111, gcnt := 5 })).map (fun t => (t.err, t.gcnt)) =
      some (0b10000, 5) := by decide

/-- R170. -/
theorem test_einit : (nextOf (exec .einit { State.reset with gcnt := 5, cnt := 2 })).map (fun t => (t.gcnt, t.cnt)) =
    some (0, 2) := by decide

/-- Section 4. -/
theorem test_cls_digit : respOf (.cls 0x7A) State.reset = okVal 0x38 := by decide
theorem test_cls_invalid : respOf (.cls 0xFF) State.reset = okVal 0xC0 := by decide

/-- Section 3: `xHQTkj7FL2z`. -/
theorem test_enc8_all_ones : respOf (.enc8 0xFFFFFFFFFFFFFFFF) State.reset =
    okOut [0x78, 0x48, 0x51, 0x54, 0x6B, 0x6A, 0x37, 0x46, 0x4C, 0x32, 0x7A] := by decide
/-- Section 6: the ninth group, `ABCDEFGHJKL` after a line break. -/
theorem test_enc8_line_break : (nextOf (exec (.enc8 8) { State.reset with gcnt := 8 })).map (fun t => (t.resp, t.gcnt)) =
    some (okOut [0x0A, 0x41, 0x42, 0x43, 0x44, 0x45, 0x46, 0x47, 0x48, 0x4A, 0x4B, 0x4C], 1) := by decide

/-- Section 5: "ABCDEFG", the bits above the tail ignored (R172). -/
theorem test_enct_seven : respOf (.enct 7 0xFF47464544434241) State.reset =
    okOut [0x52, 0x4B, 0x35, 0x32, 0x7A, 0x38, 0x54, 0x69, 0x42, 0x46] := by decide
theorem test_enct_none : (nextOf (exec (.enct 0 0xFF) { State.reset with gcnt := 8 })).map (fun t => (t.resp, t.gcnt)) =
    some (okOut [], 8) := by decide

/-- Section 6. -/
theorem test_enclen_zero : respOf (.enclen 0) State.reset = okVal 0 := by decide
theorem test_enclen_max : respOf (.enclen 0xFFFFFFFFFFFFFFFF) State.reset = okVal 25652503477502345214 := by decide

/-- Section 7. -/
theorem test_decmax_91 : respOf (.decmax 91) State.reset = okVal 66 := by decide
theorem test_decmax_max : respOf (.decmax 0xFFFFFFFFFFFFFFFF) State.reset = okVal 13415813871788764810 := by decide

/-- Section 9, program B step 13. -/
theorem test_decb_completes :
    (nextOf (exec (.decb 0x51) (pendingState [26, 25, 2, 13, 44, 3, 19, 29, 22, 6]))).map
      (fun t => (t.resp, t.cnt, t.consumed, t.produced)) =
    some (okOut [0x41, 0x42, 0x43, 0x44, 0x45, 0x46, 0x47, 0x48], 0, 1, 8) := by decide
/-- Section 9, program C step 27: `xHQTkj7FL22`. -/
theorem test_decb_overflow :
    (nextOf (exec (.decb 0x32) (pendingState [54, 15, 22, 25, 42, 41, 5, 13, 18, 0]))).map
      (fun t => (t.resp, t.cnt, t.err, t.last)) =
    some (some ⟨.overflow, true, [], 0⟩, 0, 0b00100, 3) := by decide

/-- Section 5: `Va` and `Va23`. -/
theorem test_flush_tail : (nextOf (exec .flush (pendingState [27, 32]))).map (fun t => (t.resp, t.cnt, t.produced)) =
    some (okOut [0xFF], 0, 1) := by decide
theorem test_flush_truncated :
    (nextOf (exec .flush (pendingState [27, 32, 0, 1]))).map (fun t => (t.resp, t.cnt, t.err, t.last)) =
    some (some ⟨.truncated, true, [], 0⟩, 0, 0b01000, 4) := by decide

/-- R232: the example after `RST; DECB 'A'; DECB 'B'`. -/
theorem test_rdreg_pendv : respOf (.rdreg 3) (pendingState [8, 9]) = okVal 0x248 := by decide
theorem test_rdreg_reserved : respOf (.rdreg 5) State.reset = some ⟨.illegal, false, [], 0⟩ := by decide

/-- Section 9, program C steps 12 and 38. -/
theorem test_symCtrl : (nextOf (exec (.symCtrl 0x00) (pendingState [0, 1]))).map (fun t => (t.cnt, t.consumed, t.err, t.last)) =
    some (2, 0, 0b00001, 1) := by decide
theorem test_symInval : (nextOf (exec (.symInval 0x6C) (pendingState [27]))).map (fun t => (t.cnt, t.consumed, t.err, t.last)) =
    some (1, 0, 0b00010, 2) := by decide

/-- Section 9, program B step 8. -/
theorem test_symDelim : (nextOf (exec (.symDelim 0x0A) (pendingState [27]))).map (fun t => (t.cnt, t.consumed, t.last)) =
    some (1, 1, 0) := by decide

/-- R192: each SYM.DIGIT_v, v = 0..56, puts v into `PEND[CNT]`. -/
theorem test_symDigits :
    (digitInstrs.map fun i => (nextOf (exec i (pendingState [5]))).map pendingSymbols) =
      (List.range 57).map fun v => some [5, v] := by decide +kernel

/-- The step takes an input byte and a command alike. -/
theorem test_step_byte :
    (nextOf (step (State.reset.withFetchWord 8 0x41))).map (fun t => (pendingSymbols t, t.port)) = some ([8], []) := by
  decide
theorem test_step_illegal :
    (nextOf (step (State.reset.withFetchWord 16 0xC000))).map (fun t => (t.err, t.last, t.port)) =
      some (0b10000, 0, []) := by decide

/-! ### Composites -/

/-- Section 9, program A: "ABCDEFGHIJ" is `UT4Fn5MXQ8Qebh`, and decodes back. -/
theorem test_encode_message :
    (encodeMessage [0x41, 0x42, 0x43, 0x44, 0x45, 0x46, 0x47, 0x48, 0x49, 0x4A] State.reset).map (fun z => z.1) =
      some [0x55, 0x54, 0x34, 0x46, 0x6E, 0x35, 0x4D, 0x58, 0x51, 0x38, 0x51, 0x65, 0x62, 0x68] := by decide +kernel
theorem test_decode_message :
    (decodeMessage [0x55, 0x54, 0x34, 0x46, 0x6E, 0x35, 0x0A, 0x4D, 0x58, 0x51, 0x38, 0x51, 0x20, 0x65, 0x62, 0x68]
      State.reset).map (fun z => z.1) =
      some ⟨10, 16, .ok, [0x41, 0x42, 0x43, 0x44, 0x45, 0x46, 0x47, 0x48, 0x49, 0x4A]⟩ := by decide +kernel

/-! ### Witnesses: the hypotheses of the statements can be met -/

theorem witness_DecodeOfEncode : (Instr.rdreg 4).wellFormed = true := by decide

theorem witness_EncodeOfDecode : decode (.command 0xB004 7) = .ok (.rdreg 4) := by decide

/-- Each clause at a boundary: no row; RDREG 5; RDREG 4, which is legal. -/
theorem witness_IllegalWords_noRow : ∀ row ∈ Spec.commandRows, (0x0001#16) &&& row.2 ≠ row.1 := by
  simp [Spec.commandRows]
theorem witness_IllegalWords_rdreg5 : 0xB005#16 &&& 0xFFF0 = 0xB000 ∧ 5 ≤ (0xB005#16 &&& 0x000F).toNat := by decide
theorem witness_IllegalWords_rdreg4 :
    ¬ ((∀ row ∈ Spec.commandRows, 0xB004#16 &&& row.2 ≠ row.1) ∨
      (0xB004#16 &&& 0xFFF0 = 0xB000 ∧ 5 ≤ (0xB004#16 &&& 0x000F).toNat)) := by
  simp [Spec.commandRows]
theorem witness_IllegalWords_port : (present (.command 0x0001 0) State.reset).port = .command 0x0001 0 :: [] := rfl

theorem witness_StepRuns :
    (State.reset.withFetchWord 16 0xA000).port = .command 0xA000 0 :: [] ∧ decode (.command 0xA000 0) = .ok .flush ∧
    decodeTableWord 16 0xA000 = some .flush := by decide

theorem witness_StepWaits : State.reset.port = [] := by decide

theorem witness_WaitingWords : ∀ i ∈ [Instr.rdreg 4, Instr.symCtrl 0x00], i.wellFormed = true := by decide

theorem witness_EveryPresentedWord :
    ({ State.reset with port := [.command 0xFFFF 0, .textByte 0x41] } : State).inv = true := by decide

theorem witness_LegalStates : (State.reset.withFetchWord 8 0x41).inv = true ∧
    (nextOf (step (State.reset.withFetchWord 8 0x41))).isSome = true := by decide

theorem witness_RstResult :
    exec .dinit State.reset = .next (respondOk [] 0 State.reset) ∧
    exec .einit (respondOk [] 0 State.reset) = .next (respondOk [] 0 State.reset) ∧
    Instr.dinit ≠ .rst ∧
    exec .dinit { State.reset with err := 0b10000 } = .next (respondOk [] 0 { State.reset with err := 0b10000 }) ∧
    ({ State.reset with err := 0b10000 } : State).err &&& 0b10000 = 0b10000 :=
  ⟨rfl, rfl, by decide, rfl, rfl⟩

theorem witness_NopResult : decode (.command 0x0000 5) = .ok .nop := by decide

theorem witness_RdregReserved : 5 ≤ (5 : BitVec 4).toNat := by decide

theorem witness_EnctResult : (1 : BitVec 3) ≠ 0 := by decide

theorem witness_Density : 4 ≤ 4 := by decide

theorem witness_Digits : 1 ≤ 11 ∧ 11 ≤ 11 ∧ 2 ^ 64 - 1 < 2 ^ 64 := by decide

theorem witness_Symbols : ∀ v ∈ [56, 0], v < 57 := by decide

/-- Eleven symbols with a value, and a tail's. -/
theorem witness_Groups :
    ([0, 1, 2, 3, 4, 5, 6, 7, 8, 9, 10] : List Nat).length = 11 ∧ (∀ v ∈ [0, 1, 2, 3, 4, 5, 6, 7, 8, 9, 10], v < 57) ∧
    gdec [0, 1, 2, 3, 4, 5, 6, 7, 8, 9, 10] = .value 0 ∧
    (∀ u ∈ [27, 32], u < 57) ∧ tdec [27, 32] = .value 1 255 ∧ 255 < 256 ^ 1 := by decide

theorem witness_FlushByExtension : outOfRange (digitsOfSymbols [56, 55, 56]) = false := by decide

theorem witness_StopBytes : Spec.classByRanges 0x7F = 0x80 ∧ Spec.classByRanges 0x00 = 0x80 ∧
    Spec.classByRanges 0x80 = 0xC0 ∧ Spec.classByRanges 0x21 = 0xC0 := by decide

theorem witness_DelimiterBytes : Spec.classByRanges 0x09 = 0x40 ∧ Spec.classByRanges 0x20 = 0x40 := by decide

theorem witness_DigitBytes :
    digitInstrs[56]? = some .symDigit56 ∧ symbolByte 56 = 0x7A ∧
      (pendingState [0, 1, 2, 3, 4, 5, 6, 7, 8]).cnt.toNat ≤ 9 := by decide

/-- Ten pending symbols that the eleventh completes to a group of the integer 0. -/
theorem witness_Eleventh_value :
    (pendingState [0, 1, 2, 3, 4, 5, 6, 7, 8, 9]).cnt = 10 ∧
    (∀ j : Fin 10, ((pendingState [0, 1, 2, 3, 4, 5, 6, 7, 8, 9]).pend[j]).toNat < 57) ∧
    (pendingState [0, 1, 2, 3, 4, 5, 6, 7, 8, 9]).pend.toList.map BitVec.toNat ++ [10] = Spec.group 11 0 := by decide

/-- No integer is spelt with two equal symbols at positions 0 and 1 (41_radix_codec.md R123(b)). -/
theorem no_group_repeats_its_first_symbol (k x : Nat) (q : List Nat) : 0 :: 0 :: q ≠ Spec.group (k + 2) x := by
  intro h
  have h0 : some 0 = (Spec.group (k + 2) x)[0]? := congrArg (fun l : List Nat => l[0]?) h
  have h1 : some 0 = (Spec.group (k + 2) x)[1]? := congrArg (fun l : List Nat => l[1]?) h
  simp only [Spec.group, List.getElem?_map, List.getElem?_range (show 0 < k + 2 by omega),
    List.getElem?_range (show 1 < k + 2 by omega), Option.map_some, Option.some.injEq] at h0 h1
  have d0 : Spec.digit x 0 = x / 1 % 57 := rfl
  have d1 : Spec.digit x 1 = x / 57 % 56 := rfl
  have s0 : Spec.symbol x 0 = (0 + (Spec.digit x 0 + 0)) % 57 := rfl
  have s1 : Spec.symbol x 1 = (1 + (Spec.digit x 0 + (Spec.digit x 1 + 0))) % 57 := rfl
  omega

/-- Ten pending symbols that the eleventh completes to no integer's group. -/
theorem witness_Eleventh_overflow :
    (pendingState [0, 0, 0, 0, 0, 0, 0, 0, 0, 0]).cnt = 10 ∧
    (∀ j : Fin 10, ((pendingState [0, 0, 0, 0, 0, 0, 0, 0, 0, 0]).pend[j]).toNat < 57) ∧
    ∀ x < 2 ^ 64, (pendingState [0, 0, 0, 0, 0, 0, 0, 0, 0, 0]).pend.toList.map BitVec.toNat ++ [0] ≠ Spec.group 11 x :=
  ⟨by decide, by decide, fun x _ => no_group_repeats_its_first_symbol 9 x [0, 0, 0, 0, 0, 0, 0, 0, 0]⟩

theorem witness_FlushEmpty : State.reset.cnt = 0 := by decide

theorem witness_FlushTruncated : (pendingState [0]).cnt.toNat ∈ [1, 4, 8] ∧
    (pendingState [0, 1, 2, 3, 4, 5, 6, 7]).cnt.toNat ∈ [1, 4, 8] := by decide

theorem witness_FlushTail_value :
    (pendingState [27, 32]).cnt.toNat ∈ [2, 3, 5, 6, 7, 9, 10] ∧ (∀ u ∈ pendingSymbols (pendingState [27, 32]), u < 57) ∧
    255 < 256 ^ 1 ∧ pendingSymbols (pendingState [27, 32]) = Spec.group (digitsOf 1) 255 := by decide

theorem witness_FlushTail_overflow :
    (pendingState [0, 0]).cnt.toNat ∈ [2, 3, 5, 6, 7, 9, 10] ∧ (∀ u ∈ pendingSymbols (pendingState [0, 0]), u < 57) ∧
    ∀ n v : Nat, 1 ≤ n → n ≤ 7 → v < 256 ^ n → pendingSymbols (pendingState [0, 0]) ≠ Spec.group (digitsOf n) v := by
  refine ⟨by decide, by decide, fun n v h1 h7 _ => ?_⟩
  have h : ∃ k, digitsOf n = k + 2 := by
    interval_cases n <;> exact ⟨_, rfl⟩
  obtain ⟨k, hk⟩ := h
  rw [hk]
  exact no_group_repeats_its_first_symbol k v []

theorem witness_Decmax : 1 ≤ (1 : DataWord).toNat := by decide

theorem witness_DecodedLength : (decodeMessage [0x32, 0x33] State.reset).isSome = true := by decide

/-- A fragment that does not return early, then a Control and an Invalid byte. -/
theorem witness_Texts :
    ((decodePart [0x56, 0x0A] State.reset).map fun z => z.1.reason) = some .ok ∧
    Spec.classByRanges 0x00 = 0x80 ∧ Spec.classByRanges 0xFF = 0xC0 := by decide

theorem witness_Commute :
    Spec.IsEncodeSide (.enc8 0) ∧ Spec.IsDecodeSide .flush ∧
    (nextOf (exec (.enc8 0) State.reset)).isSome = true ∧
    ((nextOf (exec (.enc8 0) State.reset)).bind fun t => nextOf (exec .flush t)).isSome = true :=
  ⟨.inr (.inl ⟨0, rfl⟩), .inr (.inr (.inl rfl)), by decide, by decide⟩

/-- Two states that differ in `PEND[1]` only, with one symbol pending, and a step of each kind. -/
theorem witness_StalePending :
    Spec.SameVisible ((pendingState [27]).withFetchWord 8 0x61)
      (({ pendingState [27] with pend := (pendingState [27, 9]).pend } : State).withFetchWord 8 0x61) ∧
    (pendingState [27]).pend ≠ (pendingState [27, 9]).pend ∧
    (nextOf (step ((pendingState [27]).withFetchWord 8 0x61))).isSome = true :=
  ⟨⟨rfl, by decide⟩, by decide, by decide⟩

theorem witness_Flags : Instr.flush ≠ .rst ∧ Instr.flush ≠ .dinit ∧ Spec.IsTextCommand .flush ∧
    (nextOf (exec .flush State.reset)).isSome = true ∧
    (nextOf (exec .rst State.reset)).isSome = true ∧ (nextOf (exec .dinit State.reset)).isSome = true :=
  ⟨by decide, by decide, .inr (.inl rfl), by decide, by decide, by decide⟩

theorem witness_Last : ¬ Spec.IsTextCommand .nop ∧ Instr.nop ≠ .dinit ∧ Instr.nop ≠ .rst ∧
    (nextOf (exec .nop State.reset)).isSome = true := by
  refine ⟨?_, by decide, by decide, by decide⟩
  rintro (⟨b, h⟩ | h | ⟨b, h⟩ | ⟨b, h⟩ | ⟨b, h⟩ | h)
  · cases h
  · cases h
  · cases h
  · cases h
  · cases h
  · exact absurd h (by decide)

theorem witness_Repeat : (4 : BitVec 4).toNat < 5 ∧ Spec.classByRanges 0x00 = 0x80 ∧
    (nextOf (exec (.decb 0x00) State.reset)).isSome = true := by decide

end Sys2Proof.Tests
end

/-! ### The constant tables (00_scope.md R7 to R10) -/

namespace Sys2Proof.Machine

open Sys2Proof

/-- What `productsFrom` holds at each index: the start times the bases below that index. -/
theorem getD_productsFrom (w : Nat) (bs : List Nat) (i : Nat) (h : i ≤ bs.length) :
    (productsFrom w bs).getD i 0 = w * (bs.take i).prod := by
  induction bs generalizing w i with
  | nil =>
    obtain rfl : i = 0 := by simpa using h
    simp [productsFrom]
  | cons b bs ih =>
    cases i with
    | zero => simp [productsFrom]
    | succ i =>
      have hi : i ≤ bs.length := by simpa using h
      simpa [productsFrom, Nat.mul_assoc] using ih (w * b) i hi

theorem length_base : base.length = 11 := rfl

theorem base_eq_baseTable : base = Spec.baseTable := rfl

/-- R7: the positions of base 57 and of base 56, counted. -/
theorem base_perm : base.Perm (List.replicate 5 57 ++ List.replicate 6 56) := by decide

/-- R8: a magnitude is the product of all lower bases. -/
theorem mag_eq_prod (i : Nat) (h : i ≤ 11) : mag i = (base.take i).prod := by
  rw [mag, mags, getD_productsFrom 1 base i (by rwa [length_base]), Nat.one_mul]

theorem mag_zero : mag 0 = 1 := by simp [mag_eq_prod]

theorem mag_succ (i : Nat) (h : i < 11) : mag (i + 1) = mag i * base.getD i 0 := by
  have hi : i < base.length := by rwa [length_base]
  rw [mag_eq_prod (i + 1) h, mag_eq_prod i h.le, List.prod_take_succ base i hi, List.getD_eq_getElem base 0 hi]

/-- R8: the number of digit combinations of a full group. -/
theorem mag_eleven : mag 11 = 57 ^ 5 * 56 ^ 6 := by
  calc mag 11 = base.prod := by rw [mag_eq_prod 11 le_rfl, List.take_of_length_le length_base.le]
    _ = (List.replicate 5 57 ++ List.replicate 6 56).prod := base_perm.prod_eq
    _ = 57 ^ 5 * 56 ^ 6 := by rw [List.prod_append, List.prod_replicate, List.prod_replicate]

theorem mags_eq_magTable : mags = Spec.magTable := by decide

theorem mag_eq_magAt (i : Nat) : mag i = Spec.magAt i := by rw [mag, mags_eq_magTable, Spec.magAt]

/-- The weight of the top digit, as R8 prints it. -/
theorem mag_ten : mag 10 = 331370935156703232 := mag_eq_magAt 10

/-- R10: with the top digit at `DMAX10`, the lower digits may sum to `LIM10` and no more. -/
theorem lim10_eq : lim10 = 221342640090873855 := by norm_num [lim10, dmax10, mag_ten]

theorem bytesOf_digitsOf (n : Nat) (h : n ≤ 8) : bytesOf (digitsOf n) = some n := by
  interval_cases n <;> rfl

theorem bytesOf_of_gt (k : Nat) (h : 11 < k) : bytesOf k = none :=
  List.getD_eq_default bytesTable none h

/-- Every count of symbols that `BYTES` admits is the `DIGITS` of a byte count (R9). -/
theorem eq_digitsOf_of_bytesOf (k n : Nat) (h : bytesOf k = some n) : n ≤ 8 ∧ k = digitsOf n := by
  by_cases hk : 11 < k
  · rw [bytesOf_of_gt k hk] at h
    cases h
  · interval_cases k <;> cases h <;> decide

/-- R9: `BYTES` inverts `DIGITS`. -/
theorem bytesOf_eq_some_iff (k n : Nat) : bytesOf k = some n ↔ n ≤ 8 ∧ k = digitsOf n := by
  constructor
  · exact eq_digitsOf_of_bytesOf k n
  · rintro ⟨hn, rfl⟩
    exact bytesOf_digitsOf n hn

/-- Settles O56. The recurrence and the product form of `MAG` come from what `productsFrom` holds at each index, the
inverse tables from `bytesOf_eq_some_iff`, the derived constants from the value of `MAG[10]`. -/
theorem tablesHoldTheSpecsValues : Obligations.TablesHoldTheSpecsValues := by
  refine ⟨⟨base_eq_baseTable, ?_, ?_⟩, ⟨mags_eq_magTable, mag_zero, mag_succ, mag_eleven, ?_⟩,
    ⟨rfl, rfl, fun n hn k _ => ?_⟩, rfl, ?_, rfl, ?_, rfl, lim10_eq, lim10_eq⟩
  · simp [base_perm.count_eq]
  · simp [base_perm.count_eq]
  · norm_num [mag_eleven]
  · simp [bytesOf_eq_some_iff, hn]
  · norm_num [mag_ten, dmax10]
  · rw [mag_ten]

end Sys2Proof.Machine

/-! ### The step, RST and the buffer of pending symbols (10_state.md R21 to R23, R30; 20_memory.md R58) -/

namespace Sys2Proof.Machine

open Sys2Proof

theorem step_of_port_nil (s : State) (h : s.port = []) : step s = .next s := by
  simp [step, (fetch_eq_none s).mpr h]

theorem step_of_decode_ok (s : State) (p : PortWord) (rest : List PortWord) (i : Instr) (h : s.port = p :: rest)
    (hi : decode p = .ok i) : step s = exec i (s.withPort rest) := by
  simp [step, (fetch_eq_some s p _).mpr ⟨rest, h, rfl⟩, hi]

theorem step_of_decode_error (s : State) (p : PortWord) (rest : List PortWord) (e : DecodeError)
    (h : s.port = p :: rest) (hi : decode p = .error e) : step s = .next (raise .illegal (s.withPort rest)) := by
  simp [step, (fetch_eq_some s p _).mpr ⟨rest, h, rfl⟩, hi, execIllegal]

/-- What RST leaves (R231): the reset state, but for the registers of `PEND`, the words that wait, and the response. -/
def afterRst (s : State) : State :=
  { State.reset with pend := s.pend, port := s.port, resp := some ⟨.ok, true, [], 0⟩ }

theorem exec_rst (s : State) : exec .rst s = .next (afterRst s) := rfl

theorem pendingSymbols_of_cnt_eq_zero (s : State) (h : s.cnt = 0) : pendingSymbols s = [] := by
  simp [pendingSymbols, h]

/-- The symbols that wait are those of the registers below `CNT`. -/
theorem getD_pendingSymbols (s : State) (i : Nat) :
    (pendingSymbols s).getD i 0 = if i < s.cnt.toNat then (s.pend.toList.getD i 0).toNat else 0 := by
  unfold pendingSymbols
  by_cases h : i < s.cnt.toNat
  · by_cases hp : i < 10 <;> simp [List.getD_eq_getElem?_getD, h, hp]
  · simp [List.getD_eq_getElem?_getD, h]

/-- R30: PENDV is made of the symbols that wait, and of nothing else. -/
theorem pendValue_eq (s : State) :
    pendValue s = ((List.range 10).map fun i => (pendingSymbols s).getD i 0 * 2 ^ (6 * i)).sum := by
  simp only [pendValue, getD_pendingSymbols]

theorem toNat_cnt_add_one (s : State) (h : s.cnt.toNat ≤ 9) : (s.cnt + 1).toNat = s.cnt.toNat + 1 := by
  bv_omega

/-- R192: an accepted symbol goes behind those that wait, in the 6 bits of its register. -/
theorem pendingSymbols_appendSymbol (v : Nat) (s : State) (h : s.cnt.toNat ≤ 9) :
    pendingSymbols (appendSymbol v s) = pendingSymbols s ++ [v % 64] := by
  have hlen : s.cnt.toNat < 10 := by omega
  simp only [pendingSymbols, appendSymbol_eq, toNat_cnt_add_one s h, Vector.toList_setIfInBounds, List.take_add_one,
    List.take_set_of_le le_rfl]
  simp [hlen]

end Sys2Proof.Machine

/-! ### Legal states (10_state.md R21, R22, R27 to R29; 30_encoding.md R76)

One rule per write says what it asks of a legal state to keep it legal; an operation of the block is a chain of writes,
so its rule is a chain of theirs. -/

namespace Sys2Proof.Machine

open Sys2Proof

theorem inv_iff (s : State) : s.inv = true ↔
    s.cnt.toNat ≤ 10 ∧ s.gcnt.toNat ≤ 8 ∧ (∀ v ∈ pendingSymbols s, v < 57) ∧ s.lastLegal = true ∧
      s.respLegal = true := by
  simp only [State.inv, State.pendingLegal, Bool.and_eq_true, decide_eq_true_eq, List.all_eq_true, and_assoc]
  exact Iff.rfl

theorem lastLegal_iff (s : State) : s.lastLegal = true ↔
    s.last = statusCode .ok ∨ ∃ e : Exception, e ≠ .illegal ∧ s.last = statusCode (exceptionStatus e) ∧
      s.err &&& exceptionFlag e = exceptionFlag e := by
  have decoderReasons (e : Exception) : e ∈ [.control, .invalid, .overflow, .truncated] ↔ e ≠ .illegal := by
    cases e <;> decide
  simp only [State.lastLegal, Bool.or_eq_true, List.any_eq_true, Bool.and_eq_true, beq_iff_eq, decoderReasons]

theorem exceptionLast_of_ne_illegal (e : Exception) (he : e ≠ .illegal) (last : BitVec 3) :
    exceptionLast e last = statusCode (exceptionStatus e) := by
  cases e with
  | illegal => exact absurd rfl he
  | _ => rfl

theorem setFlag_and_exceptionFlag (e : Exception) (err : BitVec 5) :
    setFlag e err &&& exceptionFlag e = exceptionFlag e := by
  ext i; simpa [setFlag] using Or.inr

/-- Flags are only added, so one that is set stays so. -/
theorem setFlag_keeps (e : Exception) {err f : BitVec 5} (h : err &&& f = f) : setFlag e err &&& f = f := by
  ext i hi
  have hb := congrArg (·[i]) h
  simp only [BitVec.getElem_and, Bool.and_eq_right_iff_imp] at hb
  simp only [setFlag, BitVec.getElem_and, BitVec.getElem_or, Bool.and_eq_right_iff_imp, Bool.or_eq_true]
  exact fun hf => .inl (hb hf)

variable {s : State}

theorem inv_withPort (h : s.inv = true) (p : List PortWord) : (s.withPort p).inv = true := h

theorem inv_withConsumed (h : s.inv = true) (n : BitVec 64) : (s.withConsumed n).inv = true := h

theorem inv_withProduced (h : s.inv = true) (n : BitVec 64) : (s.withProduced n).inv = true := h

theorem inv_withGcnt (h : s.inv = true) {g : BitVec 4} (hg : g.toNat ≤ 8) : (s.withGcnt g).inv = true := by
  obtain ⟨hcnt, -, hpend, hlast, hresp⟩ := (inv_iff s).mp h
  exact (inv_iff _).mpr ⟨hcnt, hg, hpend, hlast, hresp⟩

/-- R191, R231: flags may be cleared when `LAST` goes to OK with them. -/
theorem inv_withErr_withLast_ok (h : s.inv = true) (err : BitVec 5) :
    ((s.withErr err).withLast (statusCode .ok)).inv = true := by
  obtain ⟨hcnt, hgcnt, hpend, -, hresp⟩ := (inv_iff s).mp h
  exact (inv_iff _).mpr ⟨hcnt, hgcnt, hpend, (lastLegal_iff _).mpr (.inl rfl), hresp⟩

theorem inv_withLast_ok (h : s.inv = true) : (s.withLast (statusCode .ok)).inv = true :=
  inv_withErr_withLast_ok h s.err

theorem inv_withCnt_zero (h : s.inv = true) : (s.withCnt 0).inv = true := by
  obtain ⟨-, hgcnt, -, hlast, hresp⟩ := (inv_iff s).mp h
  have hpend : ∀ v ∈ pendingSymbols (s.withCnt 0), v < 57 := by
    rw [pendingSymbols_of_cnt_eq_zero _ rfl]; exact List.forall_mem_nil _
  exact (inv_iff _).mpr ⟨Nat.zero_le 10, hgcnt, hpend, hlast, hresp⟩

theorem inv_respond (h : s.inv = true) (st : Status) (acc : Bool) {out : List Byte} (hout : out.length ≤ 12)
    (val : ValWord) : (respond st acc out val s).inv = true := by
  obtain ⟨hcnt, hgcnt, hpend, hlast, -⟩ := (inv_iff s).mp h
  exact (inv_iff _).mpr ⟨hcnt, hgcnt, hpend, hlast, decide_eq_true hout⟩

theorem inv_respondOk_nil (h : s.inv = true) (val : ValWord) : (respondOk [] val s).inv = true :=
  inv_respond h .ok true (out := []) (Nat.zero_le 12) val

/-- R258: an exception writes `LAST` with the flag that it sets, or leaves `LAST` and all flags that were set. -/
theorem lastLegal_raise (e : Exception) (h : s.lastLegal = true) : (raise e s).lastLegal = true := by
  rw [lastLegal_iff]
  by_cases he : e = .illegal
  · subst he
    rcases (lastLegal_iff s).mp h with hok | ⟨e, he, hlast, hflag⟩
    · exact .inl hok
    · exact .inr ⟨e, he, hlast, setFlag_keeps .illegal hflag⟩
  · exact .inr ⟨e, he, exceptionLast_of_ne_illegal e he s.last, setFlag_and_exceptionFlag e s.err⟩

theorem inv_raise (h : s.inv = true) (e : Exception) : (raise e s).inv = true := by
  obtain ⟨hcnt, hgcnt, hpend, hlast, -⟩ := (inv_iff s).mp h
  exact (inv_iff _).mpr ⟨hcnt, hgcnt, hpend, lastLegal_raise e hlast, rfl⟩

/-- R171: a group of at most 11 symbols and a line break make at most 12 bytes, and a line holds at most 8 groups. -/
theorem inv_emitGroup (h : s.inv = true) {q : List Nat} (hq : q.length ≤ 11) : (emitGroup q s).inv = true := by
  obtain ⟨-, hgcnt, -⟩ := (inv_iff s).mp h
  refine inv_respond (inv_withGcnt h ?_) .ok true ?_ 0
  · split
    · decide
    · next hfull =>
      simp only [lineGroups, beq_iff_eq] at hfull
      bv_omega
  · split <;> simp <;> omega

theorem inv_startStream (h : s.inv = true) : (startStream s).inv = true :=
  inv_withErr_withLast_ok (inv_withProduced (inv_withConsumed (inv_withCnt_zero h) 0) 0) _

theorem inv_decoderQuiet (h : s.inv = true) : (decoderQuiet s).inv = true := inv_respondOk_nil (inv_withLast_ok h) 0

theorem inv_skipDelimiter (h : s.inv = true) : (skipDelimiter s).inv = true :=
  inv_decoderQuiet (inv_withConsumed h _)

theorem inv_outputBytes (h : s.inv = true) {n : Nat} (hn : n ≤ 8) (v : Nat) : (outputBytes n v s).inv = true :=
  inv_respond (inv_withLast_ok (inv_withProduced h _)) .ok true (by simp; omega) 0

theorem inv_appendSymbol (h : s.inv = true) (hcnt : s.cnt.toNat ≤ 9) {v : Nat} (hv : v < 57) :
    (appendSymbol v s).inv = true := by
  obtain ⟨-, hgcnt, hpend, -, -⟩ := (inv_iff s).mp h
  have hcnt' : (s.cnt + 1).toNat ≤ 10 := by rw [toNat_cnt_add_one s hcnt]; omega
  have hpend' : ∀ u ∈ pendingSymbols (appendSymbol v s), u < 57 := by
    rw [pendingSymbols_appendSymbol v s hcnt, Nat.mod_eq_of_lt (by omega)]
    simpa [or_imp, forall_and] using And.intro hpend hv
  exact (inv_iff _).mpr ⟨hcnt', hgcnt, hpend', (lastLegal_iff _).mpr (.inl rfl), rfl⟩

theorem inv_completeGroup (h : s.inv = true) (v : Nat) : (completeGroup v s).inv = true := by
  have hempty : ((consumeByte s).withCnt 0).inv = true := inv_withCnt_zero (inv_withConsumed h _)
  unfold completeGroup
  split
  · exact inv_raise hempty .overflow
  · exact inv_outputBytes hempty le_rfl _

theorem inv_acceptDigit (h : s.inv = true) {v : Nat} (hv : v < 57) : (acceptDigit v s).inv = true := by
  unfold acceptDigit
  split
  · next hcnt => exact inv_appendSymbol h hcnt hv
  · exact inv_completeGroup h v

/-- R154: a tail has at most 8 bytes. -/
theorem le_eight_of_tdec {q : List Nat} {n v : Nat} (h : tdec q = .value n v) : n ≤ 8 := by
  unfold tdec at h
  split at h
  · cases h
  · next m hm =>
    have hm8 : m ≤ 8 := (eq_digitsOf_of_bytesOf _ _ hm).1
    dsimp only at h
    split at h
    · cases h
    split at h
    · cases h
    · cases h; exact hm8

theorem inv_drain (h : s.inv = true) {t : State} (ht : drain s = .next t) : t.inv = true := by
  have hempty : (s.withCnt 0).inv = true := inv_withCnt_zero h
  unfold drain at ht
  split at ht
  · cases ht; exact inv_decoderQuiet hempty
  split at ht
  · cases ht
  split at ht
  · cases ht; exact inv_raise hempty .truncated
  · cases ht; exact inv_raise hempty .overflow
  · next n v htdec => cases ht; exact inv_outputBytes hempty (le_eight_of_tdec htdec) v

theorem TextEffect.inv {o : Result} {t : State} (he : TextEffect s o) (h : s.inv = true) (ht : o = .next t) :
    t.inv = true := by
  cases he with
  | control => cases ht; exact inv_raise h .control
  | invalid => cases ht; exact inv_raise h .invalid
  | delimiter => cases ht; exact inv_skipDelimiter h
  | digit v hv => cases ht; exact inv_acceptDigit h hv

/-- No tail has more symbols than a full group (R9). -/
theorem length_tenc_le (n v : Nat) : (tenc n v).length ≤ 11 := by
  simp [tenc, digits, base]

theorem length_genc_le (x : Nat) : (genc x).length ≤ 11 := by
  simp [genc, digits, base]

theorem ExecEffect.inv {i : Instr} {o : Result} {t : State} (he : ExecEffect s i o) (h : s.inv = true)
    (ht : o = .next t) : t.inv = true := by
  cases he with
  | rst =>
    cases ht
    have hstart := inv_withErr_withLast_ok (inv_withProduced (inv_withConsumed (inv_withCnt_zero h) 0) 0) 0
    exact inv_respondOk_nil (inv_withGcnt hstart (g := 0) (Nat.zero_le 8)) 0
  | dinit => cases ht; exact inv_respondOk_nil (inv_startStream h) 0
  | einit => cases ht; exact inv_respondOk_nil (inv_withGcnt h (g := 0) (Nat.zero_le 8)) 0
  | enc8 x => cases ht; exact inv_emitGroup h (length_genc_le _)
  | enct n din _ => cases ht; exact inv_emitGroup h (length_tenc_le _ _)
  | enctNone | nop | cls | enclen | decmax | rdreg => cases ht; exact inv_respondOk_nil h _
  | rdregNone => cases ht; exact inv_raise h .illegal
  | flush => exact inv_drain h ht
  | decb b _ htext => exact htext.inv h ht
  | symCtrl => cases ht; exact inv_raise h .control
  | symDelim => cases ht; exact inv_skipDelimiter h
  | symInval => cases ht; exact inv_raise h .invalid
  | digit _ v _ hv => cases ht; exact inv_acceptDigit h hv

theorem exec_keeps_inv {i : Instr} {t : State} (h : s.inv = true) (ht : exec i s = .next t) : t.inv = true :=
  (exec_effect i s).inv h ht

/-- A step waits, carries out an instruction, or refuses an illegal word. -/
theorem step_keeps_inv {t : State} (h : s.inv = true) (ht : step s = .next t) : t.inv = true := by
  cases hp : s.port with
  | nil =>
    rw [step_of_port_nil s hp] at ht
    cases ht; exact h
  | cons p rest =>
    have hrest : (s.withPort rest).inv = true := inv_withPort h rest
    cases hd : decode p with
    | ok i =>
      rw [step_of_decode_ok s p rest i hp hd] at ht
      exact exec_keeps_inv hrest ht
    | error e =>
      rw [step_of_decode_error s p rest e hp hd] at ht
      cases ht; exact inv_raise hrest .illegal

end Sys2Proof.Machine

namespace Sys2Proof.Machine

/-- Settles O11. -/
theorem resetStateIsLegal : Obligations.ResetStateIsLegal := by
  have hpend : ∀ v ∈ pendingSymbols State.reset, v < 57 := by
    rw [pendingSymbols_of_cnt_eq_zero _ rfl]; exact List.forall_mem_nil _
  exact (inv_iff _).mpr ⟨Nat.zero_le 10, Nat.zero_le 8, hpend, (lastLegal_iff _).mpr (.inl rfl), rfl⟩

/-- Settles O12: every instruction is a chain of writes that keep a state legal (`exec_keeps_inv`). -/
theorem stepKeepsLegalStates : Obligations.StepKeepsLegalStates :=
  fun _ _ h ht => step_keeps_inv h ht

end Sys2Proof.Machine

/-! ### Stale registers of `PEND` (10_state.md R23)

An operation that does not read `PEND` leads states that differ in stale registers only to such states again, since it
leaves the symbols that wait as they are or empties the buffer. The few that read `PEND` read it below `CNT` only. -/

namespace Sys2Proof.Machine

open Sys2Proof Sys2Proof.Spec

variable {s t : State}

theorem sameVisible_refl (s : State) : SameVisible s s := ⟨rfl, rfl⟩

theorem cnt_eq_of_sameVisible (h : SameVisible s t) : t.cnt = s.cnt := (congrArg State.cnt h.1 :)

theorem port_eq_of_sameVisible (h : SameVisible s t) : t.port = s.port := (congrArg State.port h.1 :)

theorem eq_withPend_of_sameVisible (h : SameVisible s t) : t = s.withPend t.pend := h.1

/-- An operation that neither reads nor writes `PEND`, and leaves `CNT` as it is. -/
theorem sameVisible_map (h : SameVisible s t) {f : State → State} (hf : ∀ p, f (s.withPend p) = (f s).withPend p)
    (hcnt : (f s).cnt = s.cnt) (hpend : (f s).pend = s.pend) : SameVisible (f s) (f t) := by
  have ht : f t = (f s).withPend t.pend := by rw [← hf, ← eq_withPend_of_sameVisible h]
  have hcnt' : (f t).cnt = t.cnt := by rw [ht, cnt_eq_of_sameVisible h, ← hcnt]; rfl
  have hpend' : (f t).pend = t.pend := by rw [ht]; rfl
  refine ⟨by rw [ht]; rfl, ?_⟩
  calc pendingSymbols (f s) = pendingSymbols s := by rw [pendingSymbols, hcnt, hpend]; rfl
    _ = pendingSymbols t := h.2
    _ = pendingSymbols (f t) := by rw [pendingSymbols, ← hcnt', ← hpend']; rfl

/-- An operation that neither reads nor writes `PEND`, and empties the buffer. -/
theorem sameVisible_map_emptied (h : SameVisible s t) {f : State → State}
    (hf : ∀ p, f (s.withPend p) = (f s).withPend p) (hcnt : (f s).cnt = 0) : SameVisible (f s) (f t) := by
  have ht : f t = (f s).withPend t.pend := by rw [← hf, ← eq_withPend_of_sameVisible h]
  have hcnt' : (f t).cnt = 0 := by rw [ht]; exact hcnt
  refine ⟨by rw [ht]; rfl, ?_⟩
  rw [pendingSymbols_of_cnt_eq_zero (f s) hcnt, pendingSymbols_of_cnt_eq_zero (f t) hcnt']

theorem pendingSymbols_of_full (s : State) (h : 9 < s.cnt.toNat) :
    pendingSymbols s = s.pend.toList.map BitVec.toNat := by
  rw [pendingSymbols, List.take_of_length_le (by simp; omega)]

/-- With ten symbols or more no register is stale. -/
theorem eq_of_sameVisible_of_full (h : SameVisible s t) (hcnt : 9 < s.cnt.toNat) : t = s := by
  have hlist : t.pend.toList.map BitVec.toNat = s.pend.toList.map BitVec.toNat := by
    rw [← pendingSymbols_of_full t (by rwa [cnt_eq_of_sameVisible h]), ← pendingSymbols_of_full s hcnt, h.2]
  have hpend : t.pend = s.pend :=
    Vector.toList_inj.mp (List.map_injective_iff.mpr (fun _ _ => BitVec.eq_of_toNat_eq) hlist)
  rw [eq_withPend_of_sameVisible h, hpend]; rfl

theorem sameVisible_respondOk (h : SameVisible s t) (out : List Byte) (val : ValWord) :
    SameVisible (respondOk out val s) (respondOk out val t) := sameVisible_map h (fun _ => rfl) rfl rfl

theorem sameVisible_raise (h : SameVisible s t) (e : Exception) : SameVisible (raise e s) (raise e t) :=
  sameVisible_map h (fun _ => rfl) rfl rfl

theorem sameVisible_withPort (h : SameVisible s t) (p : List PortWord) : SameVisible (s.withPort p) (t.withPort p) :=
  sameVisible_map h (f := fun s => s.withPort p) (fun _ => rfl) rfl rfl

theorem sameVisible_withCnt_zero (h : SameVisible s t) : SameVisible (s.withCnt 0) (t.withCnt 0) :=
  sameVisible_map_emptied h (f := fun s => s.withCnt 0) (fun _ => rfl) rfl

theorem sameVisible_emitGroup (h : SameVisible s t) (q : List Nat) : SameVisible (emitGroup q s) (emitGroup q t) :=
  sameVisible_map h (fun _ => rfl) rfl rfl

theorem sameVisible_withGcnt (h : SameVisible s t) (g : BitVec 4) : SameVisible (s.withGcnt g) (t.withGcnt g) :=
  sameVisible_map h (f := fun s => s.withGcnt g) (fun _ => rfl) rfl rfl

theorem sameVisible_startStream (h : SameVisible s t) : SameVisible (startStream s) (startStream t) :=
  sameVisible_map_emptied h (fun _ => rfl) rfl

theorem sameVisible_afterRst (h : SameVisible s t) : SameVisible (afterRst s) (afterRst t) :=
  sameVisible_map_emptied h (fun _ => rfl) rfl

theorem sameVisible_decoderQuiet (h : SameVisible s t) : SameVisible (decoderQuiet s) (decoderQuiet t) :=
  sameVisible_map h (fun _ => rfl) rfl rfl

theorem sameVisible_skipDelimiter (h : SameVisible s t) : SameVisible (skipDelimiter s) (skipDelimiter t) :=
  sameVisible_map h (fun _ => rfl) rfl rfl

theorem sameVisible_outputBytes (h : SameVisible s t) (n v : Nat) :
    SameVisible (outputBytes n v s) (outputBytes n v t) := sameVisible_map h (fun _ => rfl) rfl rfl

theorem sameVisible_appendSymbol (h : SameVisible s t) (hcnt : s.cnt.toNat ≤ 9) (v : Nat) :
    SameVisible (appendSymbol v s) (appendSymbol v t) := by
  have hcnt' : t.cnt.toNat ≤ 9 := by rwa [cnt_eq_of_sameVisible h]
  refine ⟨?_, by rw [pendingSymbols_appendSymbol v s hcnt, pendingSymbols_appendSymbol v t hcnt', h.2]⟩
  rw [eq_withPend_of_sameVisible h]; rfl

theorem sameVisible_acceptDigit (h : SameVisible s t) (v : Nat) : SameVisible (acceptDigit v s) (acceptDigit v t) := by
  by_cases hcnt : s.cnt.toNat ≤ 9
  · rw [acceptDigit_append v s hcnt, acceptDigit_append v t (by rwa [cnt_eq_of_sameVisible h])]
    exact sameVisible_appendSymbol h hcnt v
  · rw [eq_of_sameVisible_of_full h (by omega)]
    exact sameVisible_refl _

/-- R30: no register that RDREG reads shows a stale symbol. -/
theorem readRegister_eq_of_sameVisible (h : SameVisible s t) (r : BitVec 4) : readRegister r t = readRegister r s := by
  have hpendv : pendValue t = pendValue s := by rw [pendValue_eq, pendValue_eq, h.2]
  unfold readRegister
  rw [hpendv, eq_withPend_of_sameVisible h]
  rfl

/-- `o'` answers where `o` does, with a state that differs in stale registers only. -/
def AnswersAlike (o o' : Result) : Prop := ∀ u, o = .next u → ∃ v, o' = .next v ∧ SameVisible u v

theorem answersAlike_next (h : SameVisible s t) : AnswersAlike (.next s) (.next t) := by
  rintro u ⟨⟩
  exact ⟨t, rfl, h⟩

theorem drain_answersAlike (h : SameVisible s t) : AnswersAlike (drain s) (drain t) := by
  have hempty : SameVisible (s.withCnt 0) (t.withCnt 0) := sameVisible_withCnt_zero h
  unfold drain
  rw [cnt_eq_of_sameVisible h, h.2]
  dsimp only
  split
  · exact answersAlike_next (sameVisible_decoderQuiet hempty)
  split
  · rintro u ⟨⟩
  split
  · exact answersAlike_next (sameVisible_raise hempty .truncated)
  · exact answersAlike_next (sameVisible_raise hempty .overflow)
  · exact answersAlike_next (sameVisible_outputBytes hempty _ _)

theorem exec_digit_answersAlike (h : SameVisible s t) {i : Instr} (hi : digitInstrs.contains i = true) :
    AnswersAlike (exec i s) (exec i t) := by
  obtain ⟨v, hv⟩ := List.mem_iff_getElem?.mp (List.contains_iff_mem.mp hi)
  rw [(exec_digitInstrs v i hv s).2, (exec_digitInstrs v i hv t).2]
  exact answersAlike_next (sameVisible_acceptDigit h v)

theorem exec_answersAlike (h : SameVisible s t) (i : Instr) : AnswersAlike (exec i s) (exec i t) := by
  cases i with
  | nop | cls | enclen | decmax => exact answersAlike_next (sameVisible_respondOk h _ _)
  | rst =>
    rw [exec_rst, exec_rst]
    exact answersAlike_next (sameVisible_afterRst h)
  | dinit => exact answersAlike_next (sameVisible_respondOk (sameVisible_startStream h) _ _)
  | einit => exact answersAlike_next (sameVisible_respondOk (sameVisible_withGcnt h 0) _ _)
  | enc8 x => exact answersAlike_next (sameVisible_emitGroup h _)
  | enct n din =>
    simp only [exec, execEnct]
    split
    · exact answersAlike_next (sameVisible_respondOk h _ _)
    · exact answersAlike_next (sameVisible_emitGroup h _)
  | decb b =>
    simp only [exec, execDecb]
    split
    · exact answersAlike_next (sameVisible_raise h .control)
    · exact answersAlike_next (sameVisible_raise h .invalid)
    · exact answersAlike_next (sameVisible_skipDelimiter h)
    · exact answersAlike_next (sameVisible_acceptDigit h _)
  | flush => exact drain_answersAlike h
  | rdreg r =>
    simp only [exec, execRdreg, readRegister_eq_of_sameVisible h r]
    split
    · exact answersAlike_next (sameVisible_respondOk h _ _)
    · exact answersAlike_next (sameVisible_raise h .illegal)
  | symCtrl => exact answersAlike_next (sameVisible_raise h .control)
  | symDelim => exact answersAlike_next (sameVisible_skipDelimiter h)
  | symInval => exact answersAlike_next (sameVisible_raise h .invalid)
  | _ => exact exec_digit_answersAlike h (by rfl)

theorem step_answersAlike (h : SameVisible s t) : AnswersAlike (step s) (step t) := by
  have hport : t.port = s.port := port_eq_of_sameVisible h
  cases hp : s.port with
  | nil =>
    rw [step_of_port_nil s hp, step_of_port_nil t (hport.trans hp)]
    exact answersAlike_next h
  | cons p rest =>
    have hrest : SameVisible (s.withPort rest) (t.withPort rest) := sameVisible_withPort h rest
    cases hd : decode p with
    | ok i =>
      rw [step_of_decode_ok s p rest i hp hd, step_of_decode_ok t p rest i (hport.trans hp) hd]
      exact exec_answersAlike hrest i
    | error e =>
      rw [step_of_decode_error s p rest e hp hd, step_of_decode_error t p rest e (hport.trans hp) hd]
      exact answersAlike_next (sameVisible_raise hrest .illegal)

end Sys2Proof.Machine

namespace Sys2Proof.Machine

/-- Settles O51: a step of any kind keeps the relation of states that differ in stale registers only
(`step_answersAlike`). -/
theorem stalePendingSymbolsAreUnobservable : Obligations.StalePendingSymbolsAreUnobservable :=
  fun _ _ u h hu => step_answersAlike h u hu

end Sys2Proof.Machine

/-! ### What an instruction reports: `ERR`, `LAST` and the status of its response (10_state.md R27, R28; 60_exceptions.md
R258) -/

namespace Sys2Proof.Machine

open Sys2Proof Sys2Proof.Spec

/-- What an instruction has to do with `ERR` and `LAST`. -/
inductive Role where
  | reset
  | streamStart
  | text
  | other

/-- RST clears `ERR` and `LAST`, DINIT starts a stream, the commands of a text write `LAST`; no other command does. -/
def roleOf : Instr → Role
  | .rst => .reset
  | .dinit => .streamStart
  | .nop | .einit | .cls _ | .enc8 _ | .enct _ _ | .enclen _ | .decmax _ | .rdreg _ => .other
  | _ => .text

theorem roleOf_of_mem_digitInstrs : ∀ i ∈ digitInstrs, roleOf i = .text := by
  simp [digitInstrs, roleOf]

theorem roleOf_of_isTextCommand {i : Instr} (h : IsTextCommand i) : roleOf i = .text := by
  rcases h with ⟨b, rfl⟩ | rfl | ⟨b, rfl⟩ | ⟨b, rfl⟩ | ⟨b, rfl⟩ | hdigit
  · rfl
  · rfl
  · rfl
  · rfl
  · rfl
  · exact roleOf_of_mem_digitInstrs i hdigit

theorem ne_rst_and_ne_dinit_of_roleOf {i : Instr} (h : roleOf i = .text ∨ roleOf i = .other) :
    i ≠ .rst ∧ i ≠ .dinit := by
  constructor <;> rintro rfl <;> simp [roleOf] at h

variable {s t : State}

/-- The response of `t` is `r`, and `t` has the flags of `s` and the one that goes with the status of `r`. -/
def Reports (s t : State) (r : Response) : Prop := t.resp = some r ∧ t.err = s.err ||| flagOfStatus r.st

/-- `t` reports on the text: `LAST` holds the status too. -/
def ReportsText (s t : State) : Prop := ∃ r, Reports s t r ∧ t.last = statusCode r.st

theorem reports_of_ok {r : Response} (hresp : t.resp = some r) (hst : r.st = .ok) (herr : t.err = s.err) :
    Reports s t r := ⟨hresp, by simp [herr, hst, flagOfStatus]⟩

theorem reports_raise (e : Exception) (herr : t.err = s.err) :
    Reports s (raise e t) ⟨exceptionStatus e, exceptionAcc e, [], 0⟩ := by
  refine ⟨rfl, ?_⟩
  rw [raise_eq, ← herr]
  cases e <;> rfl

theorem reportsText_raise {e : Exception} (he : e ≠ .illegal) (herr : t.err = s.err) : ReportsText s (raise e t) :=
  ⟨_, reports_raise e herr, exceptionLast_of_ne_illegal e he t.last⟩

theorem reportsText_decoderQuiet (herr : t.err = s.err) : ReportsText s (decoderQuiet t) :=
  ⟨_, reports_of_ok rfl rfl herr, rfl⟩

theorem reportsText_outputBytes (n v : Nat) (herr : t.err = s.err) : ReportsText s (outputBytes n v t) :=
  ⟨_, reports_of_ok rfl rfl herr, rfl⟩

theorem reportsText_acceptDigit (v : Nat) (s : State) : ReportsText s (acceptDigit v s) := by
  unfold acceptDigit
  split
  · exact reportsText_decoderQuiet rfl
  unfold completeGroup
  split
  · exact reportsText_raise (by decide) rfl
  · exact reportsText_outputBytes _ _ rfl

theorem reportsText_drain (ht : drain s = .next t) : ReportsText s t := by
  unfold drain at ht
  split at ht
  · cases ht; exact reportsText_decoderQuiet rfl
  split at ht
  · cases ht
  split at ht
  · cases ht; exact reportsText_raise (by decide) rfl
  · cases ht; exact reportsText_raise (by decide) rfl
  · cases ht; exact reportsText_outputBytes _ _ rfl

theorem TextEffect.reportsText {o : Result} (he : TextEffect s o) (ht : o = .next t) : ReportsText s t := by
  cases he with
  | control => cases ht; exact reportsText_raise (by decide) rfl
  | invalid => cases ht; exact reportsText_raise (by decide) rfl
  | delimiter => cases ht; exact reportsText_decoderQuiet rfl
  | digit v _ => cases ht; exact reportsText_acceptDigit v s

/-- Which kind of instruction `i` is, and what it does with `ERR`, `LAST` and the response. -/
inductive StatusEffect (s : State) : Instr → State → Prop where
  | rst : StatusEffect s .rst (afterRst s)
  | dinit : StatusEffect s .dinit (respondOk [] 0 (startStream s))
  | text {i : Instr} {t : State} (hi : IsTextCommand i) (ht : ReportsText s t) : StatusEffect s i t
  | other {i : Instr} {t : State} {r : Response} (hi : roleOf i = .other) (hr : Reports s t r)
    (hlast : t.last = s.last) : StatusEffect s i t

theorem ExecEffect.status {i : Instr} {o : Result} (he : ExecEffect s i o) (ht : o = .next t) : StatusEffect s i t := by
  cases he with
  | rst => cases ht; exact .rst
  | dinit => cases ht; exact .dinit
  | einit | enc8 | enct | enctNone | nop | cls | enclen | decmax | rdreg =>
    cases ht; exact .other rfl (reports_of_ok rfl rfl rfl) rfl
  | rdregNone => cases ht; exact .other rfl (reports_raise .illegal rfl) rfl
  | flush => exact .text (.inr (.inl rfl)) (reportsText_drain ht)
  | decb b _ htext => exact .text (.inl ⟨b, rfl⟩) (htext.reportsText ht)
  | symCtrl b => exact .text (.inr (.inr (.inl ⟨b, rfl⟩))) (TextEffect.control.reportsText ht)
  | symDelim b => exact .text (.inr (.inr (.inr (.inl ⟨b, rfl⟩)))) (TextEffect.delimiter.reportsText ht)
  | symInval b => exact .text (.inr (.inr (.inr (.inr (.inl ⟨b, rfl⟩))))) (TextEffect.invalid.reportsText ht)
  | digit _ v hi hv =>
    have hmem : i ∈ digitInstrs := List.mem_of_getElem? hi
    exact .text (.inr (.inr (.inr (.inr (.inr hmem))))) ((TextEffect.digit v hv).reportsText ht)

theorem exec_status {i : Instr} (ht : exec i s = .next t) : StatusEffect s i t := (exec_effect i s).status ht

end Sys2Proof.Machine

namespace Sys2Proof.Machine

/-- Settles O52, by the kind of the instruction. -/
theorem flagsAreStickyAndSetByTheirEvents : Obligations.FlagsAreStickyAndSetByTheirEvents := by
  intro i s t ht
  cases exec_status ht with
  | rst => exact ⟨fun _ => rfl, nofun, fun hrst => absurd rfl hrst⟩
  | dinit => exact ⟨nofun, fun _ => rfl, fun _ hdinit => absurd rfl hdinit⟩
  | text hi htext =>
    obtain ⟨r, ⟨hresp, herr⟩, -⟩ := htext
    obtain ⟨hrst, hdinit⟩ := ne_rst_and_ne_dinit_of_roleOf (.inl (roleOf_of_isTextCommand hi))
    exact ⟨fun h => absurd h hrst, fun h => absurd h hdinit, fun _ _ => ⟨r, hresp, herr⟩⟩
  | other hrole hr _ =>
    obtain ⟨hrst, hdinit⟩ := ne_rst_and_ne_dinit_of_roleOf (.inr hrole)
    exact ⟨fun h => absurd h hrst, fun h => absurd h hdinit, fun _ _ => ⟨_, hr⟩⟩

/-- Settles O53, by the kind of the instruction. -/
theorem lastIsTheDecodersLatestStatus : Obligations.LastIsTheDecodersLatestStatus := by
  intro i s t ht
  cases exec_status ht with
  | rst =>
    exact ⟨fun hi => (nomatch roleOf_of_isTextCommand hi), fun _ => rfl, fun _ _ hrst => absurd rfl hrst⟩
  | dinit =>
    exact ⟨fun hi => (nomatch roleOf_of_isTextCommand hi), fun _ => rfl, fun _ hdinit => absurd rfl hdinit⟩
  | text hi htext =>
    obtain ⟨r, ⟨hresp, -⟩, hlast⟩ := htext
    obtain ⟨hrst, hdinit⟩ := ne_rst_and_ne_dinit_of_roleOf (.inl (roleOf_of_isTextCommand hi))
    exact ⟨fun _ => ⟨r, hresp, hlast⟩, fun h => (h.elim hdinit hrst).elim, fun hno => absurd hi hno⟩
  | other hrole _ hlast =>
    obtain ⟨hrst, hdinit⟩ := ne_rst_and_ne_dinit_of_roleOf (.inr hrole)
    have hno : ¬ Spec.IsTextCommand i := fun hi => nomatch hrole.symm.trans (roleOf_of_isTextCommand hi)
    exact ⟨fun hi => absurd hi hno, fun h => (h.elim hdinit hrst).elim, fun _ _ _ => hlast⟩

end Sys2Proof.Machine

/-! ### The first command after reset (60_exceptions.md R259; 70_reset_and_hazards.md R280) -/

namespace Sys2Proof.Machine

open Sys2Proof

/-- R259: with at most ten symbols waiting, every instruction answers. -/
theorem exec_answers (i : Instr) (s : State) (h : s.cnt.toNat ≤ 10) : ∃ t, exec i s = .next t := by
  have he := exec_effect i s
  generalize exec i s = o at he
  cases he with
  | flush =>
    rcases drain_cases s with ⟨-, hd⟩ | ⟨hlt, -⟩ | ⟨-, -, ⟨-, hd⟩ | ⟨-, hd⟩ | ⟨_, _, -, hd⟩⟩
    · exact ⟨_, hd⟩
    · omega
    · exact ⟨_, hd⟩
    · exact ⟨_, hd⟩
    · exact ⟨_, hd⟩
  | decb _ _ htext => cases htext <;> exact ⟨_, rfl⟩
  | _ => exact ⟨_, rfl⟩

theorem readRegister_pendv_of_cnt_eq_zero (s : State) (h : s.cnt = 0) : readRegister 3 s = some 0 := by
  have hpendv : pendValue s = 0 := by simp [pendValue_eq, pendingSymbols_of_cnt_eq_zero s h]
  simp [readRegister, hpendv]

/-- Settles O14: the reset state, PENDV of an empty buffer, what RST leaves, the wait, and the first instruction. -/
theorem resetLeavesTheResetState : Obligations.ResetLeavesTheResetState := by
  refine ⟨⟨rfl, rfl, rfl, rfl, rfl, rfl⟩, fun p => ?_, exec_rst, step_of_port_nil _ rfl,
    fun i => exec_answers i _ (Nat.zero_le 10)⟩
  simp only [exec, execRdreg, readRegister_pendv_of_cnt_eq_zero { State.reset with pend := p } rfl]
  rfl

end Sys2Proof.Machine

/-! ### The fields of a command word, read from the formats that build one (30_encoding.md R70, R72) -/

namespace Sys2Proof.Machine

open Sys2Proof BitVec

@[simp] theorem opField_formatB (op : BitVec 4) (b : Byte) : opField (formatB op b) = op :=
  (extractLsb'_append_eq_of_le (by decide)).trans extractLsb'_append_eq_left

@[simp] theorem bField_formatB (op : BitVec 4) (b : Byte) : bField (formatB op b) = b :=
  extractLsb'_append_eq_right

@[simp] theorem plainB_formatB (op : BitVec 4) (b : Byte) : plainB (formatB op b) = true :=
  beq_iff_eq.mpr ((extractLsb'_append_eq_of_le (by decide)).trans extractLsb'_append_eq_right)

@[simp] theorem opField_formatT (op : BitVec 4) (n : BitVec 3) : opField (formatT op n) = op := by
  unfold opField formatT
  rw [extractLsb'_append_eq_of_le (by decide), extractLsb'_append_eq_of_le (by decide), extractLsb'_append_eq_left]

@[simp] theorem nField_formatT (op : BitVec 4) (n : BitVec 3) : nField (formatT op n) = n :=
  (extractLsb'_append_eq_of_le (by decide)).trans extractLsb'_append_eq_right

@[simp] theorem plainT_formatT (op : BitVec 4) (n : BitVec 3) : plainT (formatT op n) = true := by
  have hlow : (formatT op n).extractLsb' 0 8 = 0#8 := extractLsb'_append_eq_right
  have hbit : (formatT op n).extractLsb' 11 1 = 0#1 := by
    unfold formatT
    rw [extractLsb'_append_eq_of_le (by decide), extractLsb'_append_eq_of_le (by decide), extractLsb'_append_eq_right]
  simp [plainT, hlow, hbit]

@[simp] theorem opField_formatR (op r : BitVec 4) : opField (formatR op r) = op :=
  (extractLsb'_append_eq_of_le (by decide)).trans extractLsb'_append_eq_left

@[simp] theorem rField_formatR (op r : BitVec 4) : rField (formatR op r) = r :=
  extractLsb'_append_eq_right

@[simp] theorem plainR_formatR (op r : BitVec 4) : plainR (formatR op r) = true :=
  beq_iff_eq.mpr ((extractLsb'_append_eq_of_le (by decide)).trans extractLsb'_append_eq_right)

end Sys2Proof.Machine

/-! ### Decoding an encoded instruction, and the words that wait (20_memory.md R58; 30_encoding.md R71, R79) -/

namespace Sys2Proof.Machine

open Sys2Proof

theorem lt_of_digitInstrs {v : Nat} {i : Instr} (h : digitInstrs[v]? = some i) : v < 57 :=
  length_digitInstrs ▸ (List.getElem?_eq_some_iff.mp h).1

/-- The word of SYM.DIGIT_v is the byte `ALPHABET[v]` (R79). -/
theorem encode_digitInstrs (v : Nat) (i : Instr) (h : digitInstrs[v]? = some i) :
    encode i = .textByte (symbolByte v) := by
  have hv : v < 57 := lt_of_digitInstrs h
  interval_cases v <;> (simp only [digitInstrs] at h; cases h; rfl)

/-- A byte of the alphabet decodes to the instruction of its symbol value (R79, R102). -/
theorem decodeByte_symbolByte (v : Nat) (i : Instr) (h : digitInstrs[v]? = some i) :
    decodeByte (symbolByte v) = .ok i := by
  have hv : v < 57 := lt_of_digitInstrs h
  simp [decodeByte, classify_symbolByte v hv, h]

theorem decode_encode_digit (i : Instr) (h : digitInstrs.contains i = true) : decode (encode i) = .ok i := by
  obtain ⟨v, hv⟩ := List.mem_iff_getElem?.mp (List.contains_iff_mem.mp h)
  rw [encode_digitInstrs v i hv]
  exact decodeByte_symbolByte v i hv

/-- R71, R72, R79: a well-formed instruction is read back from its word. -/
theorem decode_encode (i : Instr) (h : i.wellFormed = true) : decode (encode i) = .ok i := by
  cases i with
  | nop | rst | dinit | einit | enc8 | enclen | decmax | flush => rfl
  | cls | decb | enct => simp [encode, decode, decodeCommand, ifPlain]
  | rdreg r =>
    have hr : r.toNat < 5 := of_decide_eq_true h
    simp [encode, decode, decodeCommand, ifPlain, hr]
  | symCtrl b =>
    have hb : classify b = .control := of_decide_eq_true h
    simp [encode, decode, decodeByte, hb]
  | symDelim b =>
    have hb : classify b = .delimiter := of_decide_eq_true h
    simp [encode, decode, decodeByte, hb]
  | symInval b =>
    have hb : classify b = .invalid := of_decide_eq_true h
    simp [encode, decode, decodeByte, hb]
  | _ => exact decode_encode_digit _ (by rfl)

theorem decodeTableWord_eq_some_iff (nbits w : Nat) (i : Instr) :
    decodeTableWord nbits w = some i ↔ decode (tableWord nbits w) = .ok i := by
  unfold decodeTableWord
  cases decode (tableWord nbits w) <;> simp

/-- R58: carrying out the words of `is` that wait is carrying out `is`, whatever waits behind them. -/
theorem run_encoded (is : List Instr) (rest : List PortWord) (s : State) (h : ∀ i ∈ is, i.wellFormed = true) :
    core.run is.length (s.withPort (is.map encode ++ rest)) = execAll is (s.withPort rest) := by
  induction is generalizing s with
  | nil => rfl
  | cons i is ih =>
    obtain ⟨hi, his⟩ := List.forall_mem_cons.mp h
    have hstep : core.step (s.withPort ((i :: is).map encode ++ rest)) = exec i (s.withPort (is.map encode ++ rest)) :=
      step_of_decode_ok (s.withPort ((i :: is).map encode ++ rest)) _ _ i rfl (decode_encode i hi)
    simp only [List.length_cons, Host.Core.run, hstep, execAll, exec_withPort]
    cases exec i s with
    | next t => exact ih t his
    | fault r => rfl
    | refused r => rfl

/-- Settles O6: both clauses are `step_of_decode_ok`, the second at the port that `withFetchWord` leaves. -/
theorem stepRunsTheDecodedInstruction : Obligations.StepRunsTheDecodedInstruction := by
  refine ⟨step_of_decode_ok, fun s nbits w i hw => ?_⟩
  exact step_of_decode_ok (s.withFetchWord nbits w) _ s.port i rfl ((decodeTableWord_eq_some_iff nbits w i).mp hw)

/-- Settles O9, by induction on the instructions: a step carries out the first of them on the state with the other words
waiting, and what waits is left alone (`exec_withPort`). -/
theorem waitingWordsRunInIssueOrder : Obligations.WaitingWordsRunInIssueOrder :=
  fun is rest s h => run_encoded is rest s h

end Sys2Proof.Machine

/-! ### Commands that may be repeated (20_memory.md R57) -/

namespace Sys2Proof.Machine

open Sys2Proof

/-- R104, R106: the Control bytes, by the ranges of `CLASS`. -/
theorem classify_eq_control_iff (b : Byte) : classify b = .control ↔ Spec.classByRanges b.toNat = 0x80 := by
  have key : ∀ b : Byte, classify b = .control ↔ Spec.classByRanges b.toNat = 0x80 := by decide +kernel
  exact key b

/-- R105, R106: the Invalid bytes, by the ranges of `CLASS`. -/
theorem classify_eq_invalid_iff (b : Byte) : classify b = .invalid ↔ Spec.classByRanges b.toNat = 0xC0 := by
  have key : ∀ b : Byte, classify b = .invalid ↔ Spec.classByRanges b.toNat = 0xC0 := by decide +kernel
  exact key b

/-- R251, R252: DECB of a Control or Invalid byte takes an exception, the same one from every state. -/
theorem exec_decb_of_stop (b : Byte)
    (h : Spec.classByRanges b.toNat = 0x80 ∨ Spec.classByRanges b.toNat = 0xC0) :
    ∃ e, ∀ s, exec (.decb b) s = .next (raise e s) := by
  rcases h with h | h
  · exact ⟨.control, fun s => by simp [exec, execDecb, (classify_eq_control_iff b).mpr h]⟩
  · exact ⟨.invalid, fun s => by simp [exec, execDecb, (classify_eq_invalid_iff b).mpr h]⟩

/-- R258: an exception taken again finds its flag set and its code in `LAST`. -/
theorem raise_raise (e : Exception) (s : State) : raise e (raise e s) = raise e s := by
  have hlast : exceptionLast e (exceptionLast e s.last) = exceptionLast e s.last := by cases e <;> rfl
  simp [raise_eq, BitVec.or_assoc, hlast]

theorem exec_rdreg_of_some {r : BitVec 4} {s : State} {v : ValWord} (h : readRegister r s = some v) :
    exec (.rdreg r) s = .next (respondOk [] v s) := by
  simp [exec, execRdreg, h]

/-- Settles O55: a command that only responds reads nothing of the response before it, and an exception taken again
changes nothing (`raise_raise`). -/
theorem repeatableCommandsRepeat : Obligations.RepeatableCommandsRepeat := by
  refine ⟨fun i s hi => ?_, fun b s t hb ht => ?_⟩
  · rcases hi with rfl | ⟨b, rfl⟩ | ⟨x, rfl⟩ | ⟨x, rfl⟩ | ⟨r, rfl, hr⟩
    · exact ⟨_, rfl, rfl⟩
    · exact ⟨_, rfl, rfl⟩
    · exact ⟨_, rfl, rfl⟩
    · exact ⟨_, rfl, rfl⟩
    · obtain ⟨v, hv⟩ := Option.isSome_iff_exists.mp ((readRegister_isSome r s).trans (decide_eq_true hr))
      exact ⟨⟨.ok, true, [], v⟩, exec_rdreg_of_some hv, exec_rdreg_of_some hv⟩
  · obtain ⟨e, he⟩ := exec_decb_of_stop b hb
    obtain rfl : raise e s = t := by simpa [he] using ht
    exact ⟨rfl, by rw [he, raise_raise]⟩

end Sys2Proof.Machine

/-! ### The two sides of the block (20_memory.md R61)

A command of the encode side reads and writes `GCNT` only, and responds; one of the decode side neither reads nor writes
`GCNT`, and neither reads nor keeps the response before its own. Any two such commands commute. -/

namespace Sys2Proof.Machine

open Sys2Proof

/-- `s` after a command of the encode side: with another `GCNT` and another response. -/
def State.framed (s : State) (g : BitVec 4) (q : Option Response) : State := (s.withGcnt g).withResp q

/-- The result of a command, the next state changed by `f`. -/
def mapNext (f : State → State) : Result → Result
  | .next s => .next (f s)
  | .fault r => .fault r
  | .refused r => .refused r

theorem mapNext_eq_next (f : State → State) (o : Result) (u : State) :
    mapNext f o = .next u ↔ ∃ t, o = .next t ∧ f t = u := by
  cases o <;> simp [mapNext]

/-- What a command of the encode side does: a new `GCNT` and a response, made of `GCNT` alone. -/
def OnEncodeSide (m : State → Result) : Prop :=
  ∃ (f : BitVec 4 → BitVec 4) (r : BitVec 4 → Response), ∀ s, m s = .next (s.framed (f s.gcnt) (some (r s.gcnt)))

/-- What a command of the decode side does: a change of `GCNT` and of the response before it goes past it. -/
def OnDecodeSide (m : State → Result) : Prop :=
  ∀ (s : State) (g : BitVec 4) (q : Option Response), m (s.framed g q) = mapNext (fun t => t.withGcnt g) (m s)

theorem onDecodeSide_next {f : State → State} (h : ∀ s g q, f (s.framed g q) = (f s).withGcnt g) :
    OnDecodeSide fun s => .next (f s) :=
  fun s g q => congrArg Host.Outcome.next (h s g q)

theorem gcnt_of_onDecodeSide {m : State → Result} (h : OnDecodeSide m) {s t : State} (ht : m s = .next t) :
    t.gcnt = s.gcnt := by
  have hs : m s = mapNext (fun t => t.withGcnt s.gcnt) (m s) := h s s.gcnt s.resp
  rw [ht] at hs
  injection hs with hs
  rw [hs]; rfl

theorem onEncodeSide_emitGroup (v : List Nat) : OnEncodeSide fun s => .next (emitGroup v s) :=
  ⟨fun g => if g = 8#4 then 1#4 else g + 1,
    fun g => ⟨.ok, true, (if g = 8#4 then [0x0A#8] else []) ++ symbolText v, 0⟩,
    fun s => congrArg Host.Outcome.next (emitGroup_eq v s)⟩

theorem onEncodeSide_exec {i : Instr} (h : Spec.IsEncodeSide i) : OnEncodeSide (exec i) := by
  rcases h with rfl | ⟨x, rfl⟩ | ⟨n, din, rfl⟩
  · exact ⟨fun _ => 0, fun _ => ⟨.ok, true, [], 0⟩, fun _ => rfl⟩
  · exact onEncodeSide_emitGroup (genc x.toNat)
  · by_cases hn : n.toNat = 0
    · have hexec (s : State) : exec (.enct n din) s = .next (respondOk [] 0 s) := if_pos hn
      exact ⟨id, fun _ => ⟨.ok, true, [], 0⟩, hexec⟩
    · have hexec : exec (.enct n din) = fun s => .next (emitGroup (tenc n.toNat (tailOperand n din)) s) :=
        funext fun _ => if_neg hn
      rw [hexec]
      exact onEncodeSide_emitGroup _

theorem completeGroup_framed (v : Nat) (s : State) (g : BitVec 4) (q : Option Response) :
    completeGroup v (s.framed g q) = (completeGroup v s).withGcnt g := by
  cases h : gdec (s.pend.toList.map BitVec.toNat ++ [v]) with
  | overflow => rw [completeGroup_overflow v s h, completeGroup_overflow v (s.framed g q) h]; rfl
  | value x => rw [completeGroup_value v x s h, completeGroup_value v x (s.framed g q) h]; rfl

theorem acceptDigit_framed (v : Nat) (s : State) (g : BitVec 4) (q : Option Response) :
    acceptDigit v (s.framed g q) = (acceptDigit v s).withGcnt g := by
  by_cases h : s.cnt.toNat ≤ 9
  · rw [acceptDigit_append v s h, acceptDigit_append v (s.framed g q) h]; rfl
  · have hfull : 9 < s.cnt.toNat := by omega
    rw [acceptDigit_complete v s hfull, acceptDigit_complete v (s.framed g q) hfull]
    exact completeGroup_framed v s g q

theorem onDecodeSide_drain : OnDecodeSide drain := by
  intro s g q
  unfold drain
  rw [show (s.framed g q).cnt = s.cnt from rfl, show pendingSymbols (s.framed g q) = pendingSymbols s from rfl]
  dsimp only
  split
  · rfl
  split
  · rfl
  split <;> rfl

theorem onDecodeSide_raise (e : Exception) : OnDecodeSide fun s => .next (raise e s) :=
  onDecodeSide_next fun _ _ _ => rfl

theorem onDecodeSide_skipDelimiter : OnDecodeSide fun s => .next (skipDelimiter s) :=
  onDecodeSide_next fun _ _ _ => rfl

theorem onDecodeSide_acceptDigit (v : Nat) : OnDecodeSide fun s => .next (acceptDigit v s) :=
  onDecodeSide_next (acceptDigit_framed v)

theorem onDecodeSide_decb (b : Byte) : OnDecodeSide (execDecb b) := by
  unfold OnDecodeSide execDecb
  cases classify b with
  | control => exact onDecodeSide_raise .control
  | invalid => exact onDecodeSide_raise .invalid
  | delimiter => exact onDecodeSide_skipDelimiter
  | digit v => exact onDecodeSide_acceptDigit v

theorem onDecodeSide_exec {i : Instr} (h : Spec.IsDecodeSide i) : OnDecodeSide (exec i) := by
  rcases h with rfl | ⟨b, rfl⟩ | rfl | ⟨b, rfl⟩ | ⟨b, rfl⟩ | ⟨b, rfl⟩ | hdigit
  · exact onDecodeSide_next fun _ _ _ => rfl
  · exact onDecodeSide_decb b
  · exact onDecodeSide_drain
  · exact onDecodeSide_raise .control
  · exact onDecodeSide_skipDelimiter
  · exact onDecodeSide_raise .invalid
  · obtain ⟨v, hv⟩ := List.mem_iff_getElem?.mp hdigit
    have hexec : exec i = fun s => .next (acceptDigit v s) := funext fun s => (exec_digitInstrs v i hv s).2
    rw [hexec]
    exact onDecodeSide_acceptDigit v

/-- Settles O50: the decode side leaves `GCNT` as it is, so the encode side reads the same `GCNT` before and after it. -/
theorem encodeAndDecodeCommandsCommute : Obligations.EncodeAndDecodeCommandsCommute := by
  intro e d s t u he hd ht hu
  obtain ⟨f, r, hexec⟩ := onEncodeSide_exec he
  obtain rfl : s.framed (f s.gcnt) (some (r s.gcnt)) = t := by simpa [hexec] using ht
  rw [onDecodeSide_exec hd, mapNext_eq_next] at hu
  obtain ⟨t', ht', rfl⟩ := hu
  have hgcnt : t'.gcnt = s.gcnt := gcnt_of_onDecodeSide (onDecodeSide_exec hd) ht'
  refine ⟨t', _, ht', hexec t', rfl, ?_, ?_⟩
  · rw [hgcnt]; rfl
  · rw [hgcnt]; rfl

end Sys2Proof.Machine

/-! ### The rows of the opcode map (30_encoding.md R71 to R73)

A command word passes the match and mask of a row exactly when it is built by that row's format. -/

namespace Sys2Proof.Machine

open Sys2Proof BitVec

variable {cw : CmdWord}

/-- R70: the opcode is the command word shifted right by 12. -/
theorem toNat_shiftRight_twelve (cw : CmdWord) : (cw >>> 12).toNat = (opField cw).toNat := by
  have := cw.isLt
  simp only [opField, toNat_ushiftRight, extractLsb'_toNat, Nat.shiftRight_eq_div_pow]
  omega

theorem eq_formatZ {op : BitVec 4} (hop : opField cw = op) (hplain : plainZ cw = true) : cw = formatZ op := by
  rw [← hop, formatZ, ← beq_iff_eq.mp hplain, opField, extractLsb'_append_extractLsb'_eq_extractLsb' (by decide)]
  exact extractLsb'_eq_self.symm

theorem eq_formatB {op : BitVec 4} (hop : opField cw = op) (hplain : plainB cw = true) :
    cw = formatB op (bField cw) := by
  rw [← hop, formatB, ← beq_iff_eq.mp hplain, opField, bField,
    extractLsb'_append_extractLsb'_eq_extractLsb' (by decide),
    extractLsb'_append_extractLsb'_eq_extractLsb' (by decide)]
  exact extractLsb'_eq_self.symm

theorem eq_formatT {op : BitVec 4} (hop : opField cw = op) (hplain : plainT cw = true) :
    cw = formatT op (nField cw) := by
  obtain ⟨hbit, hlow⟩ := Bool.and_eq_true_iff.mp hplain
  rw [← hop, formatT, ← beq_iff_eq.mp hbit, ← beq_iff_eq.mp hlow, opField, nField,
    extractLsb'_append_extractLsb'_eq_extractLsb' (by decide),
    extractLsb'_append_extractLsb'_eq_extractLsb' (by decide),
    extractLsb'_append_extractLsb'_eq_extractLsb' (by decide)]
  exact extractLsb'_eq_self.symm

theorem eq_formatR {op : BitVec 4} (hop : opField cw = op) (hplain : plainR cw = true) :
    cw = formatR op (rField cw) := by
  rw [← hop, formatR, ← beq_iff_eq.mp hplain, opField, rField,
    extractLsb'_append_extractLsb'_eq_extractLsb' (by decide),
    extractLsb'_append_extractLsb'_eq_extractLsb' (by decide)]
  exact extractLsb'_eq_self.symm

/-- A field that the mask covers is the field of the match. -/
theorem extractLsb'_of_matches {mask value : CmdWord} (h : cw &&& mask = value) (start len : Nat)
    (hmask : mask.extractLsb' start len = allOnes len) : cw.extractLsb' start len = value.extractLsb' start len := by
  rw [← h, extractLsb'_and, hmask, and_allOnes]

/-- The row of a command without operand in `CW`. -/
theorem matches_formatZ (op : BitVec 4) : cw &&& 0xFFFF = formatZ op ↔ cw = formatZ op := by
  rw [show (0xFFFF : CmdWord) = allOnes 16 from rfl, and_allOnes]

/-- The row of a command with a byte in `CW[7:0]`. -/
theorem matches_formatB (op : BitVec 4) : cw &&& 0xFF00 = formatB op 0 ↔ ∃ b, cw = formatB op b := by
  constructor
  · intro h
    have hop : opField cw = op := (extractLsb'_of_matches h 12 4 rfl).trans (opField_formatB op 0)
    have hplain : plainB cw = true := by
      rw [plainB, extractLsb'_of_matches h 8 4 rfl]; exact plainB_formatB op 0
    exact ⟨_, eq_formatB hop hplain⟩
  · rintro ⟨b, rfl⟩
    have hmask : (0xFF00 : CmdWord) = allOnes 4 ++ allOnes 4 ++ 0#8 := rfl
    rw [hmask, formatB, and_append, and_append, and_allOnes, and_allOnes, and_zero]; rfl

/-- The row of ENCT, with the byte count in `CW[10:8]`. -/
theorem matches_formatT (op : BitVec 4) : cw &&& 0xF8FF = formatT op 0 ↔ ∃ n, cw = formatT op n := by
  constructor
  · intro h
    have hop : opField cw = op := (extractLsb'_of_matches h 12 4 rfl).trans (opField_formatT op 0)
    have hplain : plainT cw = true := by
      rw [plainT, extractLsb'_of_matches h 11 1 rfl, extractLsb'_of_matches h 0 8 rfl]; exact plainT_formatT op 0
    exact ⟨_, eq_formatT hop hplain⟩
  · rintro ⟨n, rfl⟩
    have hmask : (0xF8FF : CmdWord) = allOnes 4 ++ allOnes 1 ++ 0#3 ++ allOnes 8 := rfl
    rw [hmask, formatT, and_append, and_append, and_append, and_allOnes, and_allOnes, and_allOnes, and_zero]; rfl

/-- The row of RDREG, with the register in `CW[3:0]`. -/
theorem matches_formatR (op : BitVec 4) : cw &&& 0xFFF0 = formatR op 0 ↔ ∃ r, cw = formatR op r := by
  constructor
  · intro h
    have hop : opField cw = op := (extractLsb'_of_matches h 12 4 rfl).trans (opField_formatR op 0)
    have hplain : plainR cw = true := by
      rw [plainR, extractLsb'_of_matches h 4 8 rfl]; exact plainR_formatR op 0
    exact ⟨_, eq_formatR hop hplain⟩
  · rintro ⟨r, rfl⟩
    have hmask : (0xFFF0 : CmdWord) = allOnes 4 ++ allOnes 8 ++ 0#4 := rfl
    rw [hmask, formatR, and_append, and_append, and_allOnes, and_allOnes, and_zero]; rfl

/-- R70: the register number is the command word masked to its low 4 bits. -/
theorem toNat_and_fifteen (cw : CmdWord) : (cw &&& 0x000F).toNat = (rField cw).toNat := by
  simp only [rField, toNat_and, extractLsb'_toNat, Nat.shiftRight_zero]
  exact Nat.and_two_pow_sub_one_eq_mod cw.toNat 4

end Sys2Proof.Machine

/-! ### The command words that decode, and the instructions they stand for (30_encoding.md R71 to R74) -/

namespace Sys2Proof.Machine

open Sys2Proof BitVec

/-- The opcode map as a relation: `(cw, din)` is a word of the instruction, with `din` any value where it is ignored. -/
inductive CommandOf (cw : CmdWord) (din : DataWord) : Instr → Prop where
  | nop (h : cw = formatZ 0x0) : CommandOf cw din .nop
  | rst (h : cw = formatZ 0x1) : CommandOf cw din .rst
  | dinit (h : cw = formatZ 0x2) : CommandOf cw din .dinit
  | einit (h : cw = formatZ 0x3) : CommandOf cw din .einit
  | cls (b : Byte) (h : cw = formatB 0x4 b) : CommandOf cw din (.cls b)
  | enc8 (h : cw = formatZ 0x5) : CommandOf cw din (.enc8 din)
  | enct (n : BitVec 3) (h : cw = formatT 0x6 n) : CommandOf cw din (.enct n din)
  | enclen (h : cw = formatZ 0x7) : CommandOf cw din (.enclen din)
  | decmax (h : cw = formatZ 0x8) : CommandOf cw din (.decmax din)
  | decb (b : Byte) (h : cw = formatB 0x9 b) : CommandOf cw din (.decb b)
  | flush (h : cw = formatZ 0xA) : CommandOf cw din .flush
  | rdreg (r : BitVec 4) (h : cw = formatR 0xB r) (hr : r.toNat < 5) : CommandOf cw din (.rdreg r)

variable {cw : CmdWord} {din : DataWord} {i j : Instr}

theorem ifPlain_eq_ok_iff {plain : Bool} : ifPlain plain cw j = .ok i ↔ plain = true ∧ j = i := by
  cases plain <;> simp [ifPlain]

theorem commandOf_of_decodeCommand (h : decodeCommand cw din = .ok i) : CommandOf cw din i := by
  unfold decodeCommand at h
  split at h
  case h_13 => cases h
  case h_12 hop =>
    split at h
    · next hr =>
      obtain ⟨hplain, rfl⟩ := ifPlain_eq_ok_iff.mp h
      exact .rdreg _ (eq_formatR (eq_of_toNat_eq hop) hplain) hr
    · cases h
  case h_7 hop =>
    obtain ⟨hplain, rfl⟩ := ifPlain_eq_ok_iff.mp h
    exact .enct _ (eq_formatT (eq_of_toNat_eq hop) hplain)
  case h_5 hop | h_10 hop =>
    obtain ⟨hplain, rfl⟩ := ifPlain_eq_ok_iff.mp h
    constructor
    exact eq_formatB (eq_of_toNat_eq hop) hplain
  case h_1 hop | h_2 hop | h_3 hop | h_4 hop | h_6 hop | h_8 hop | h_9 hop | h_11 hop =>
    obtain ⟨hplain, rfl⟩ := ifPlain_eq_ok_iff.mp h
    constructor
    exact eq_formatZ (eq_of_toNat_eq hop) hplain

theorem CommandOf.decodeCommand (h : CommandOf cw din i) : decodeCommand cw din = .ok i := by
  cases h with
  | nop h | rst h | dinit h | einit h | enc8 h | enclen h | decmax h | flush h => subst h; rfl
  | cls b h | decb b h | enct n h => subst h; simp [Sys2Proof.decodeCommand, ifPlain]
  | rdreg r h hr => subst h; simp [Sys2Proof.decodeCommand, ifPlain, hr]

/-- What the decoder reads, it reads by the opcode map. -/
theorem decodeCommand_eq_ok_iff : decodeCommand cw din = .ok i ↔ CommandOf cw din i :=
  ⟨commandOf_of_decodeCommand, CommandOf.decodeCommand⟩

theorem CommandOf.wellFormed (h : CommandOf cw din i) : i.wellFormed = true := by
  cases h with
  | rdreg r h hr => exact decide_eq_true hr
  | _ => rfl

/-- R70, R72: the encoder's word is the command word itself, and `DIN` where the command has one. -/
theorem CommandOf.encode (h : CommandOf cw din i) :
    encode i = .command cw (if (cw >>> 12).toNat ∈ [0x5, 0x6, 0x7, 0x8] then din else 0) := by
  rw [toNat_shiftRight_twelve]
  cases h with
  | nop h | rst h | dinit h | einit h | enc8 h | enclen h | decmax h | flush h => subst h; rfl
  | cls b h | decb b h | enct n h | rdreg r h hr => subst h; simp [Sys2Proof.encode]

/-- R71: the word of a command passes the match and mask of its row. -/
theorem CommandOf.matches_row (h : CommandOf cw din i) : ∃ row ∈ Spec.commandRows, cw &&& row.2 = row.1 := by
  cases h with
  | nop h | rst h | dinit h | einit h | enc8 h | enclen h | decmax h | flush h =>
    exact ⟨(cw, 0xFFFF), by rw [h]; decide, and_allOnes⟩
  | cls b h => exact ⟨(0x4000, 0xFF00), by decide, (matches_formatB 0x4).mpr ⟨b, h⟩⟩
  | enct n h => exact ⟨(0x6000, 0xF8FF), by decide, (matches_formatT 0x6).mpr ⟨n, h⟩⟩
  | decb b h => exact ⟨(0x9000, 0xFF00), by decide, (matches_formatB 0x9).mpr ⟨b, h⟩⟩
  | rdreg r h _ => exact ⟨(0xB000, 0xFFF0), by decide, (matches_formatR 0xB).mpr ⟨r, h⟩⟩

/-- R73, R233: RDREG of a register 5..15 is no word of a command. -/
theorem CommandOf.register_lt (h : CommandOf cw din i) (hrow : cw &&& 0xFFF0 = 0xB000) :
    (cw &&& 0x000F).toNat < 5 := by
  obtain ⟨r, rfl⟩ := (matches_formatR 0xB).mp hrow
  rw [toNat_and_fifteen, rField_formatR]
  by_contra hr
  simpa [Sys2Proof.decodeCommand, hr] using h.decodeCommand

/-- R71, R73: a word that passes the match and mask of a row, with a register that exists where the row is RDREG's, is
the word of a command. -/
theorem exists_commandOf (din : DataWord) {row : CmdWord × CmdWord} (hmem : row ∈ Spec.commandRows)
    (hrow : cw &&& row.2 = row.1) (hreg : cw &&& 0xFFF0 = 0xB000 → (cw &&& 0x000F).toNat < 5) :
    ∃ i, CommandOf cw din i := by
  simp only [Spec.commandRows, List.mem_cons, List.not_mem_nil, or_false] at hmem
  rcases hmem with rfl | rfl | rfl | rfl | rfl | rfl | rfl | rfl | rfl | rfl | rfl | rfl
  · exact ⟨_, .nop ((matches_formatZ 0x0).mp hrow)⟩
  · exact ⟨_, .rst ((matches_formatZ 0x1).mp hrow)⟩
  · exact ⟨_, .dinit ((matches_formatZ 0x2).mp hrow)⟩
  · exact ⟨_, .einit ((matches_formatZ 0x3).mp hrow)⟩
  · obtain ⟨b, hb⟩ := (matches_formatB 0x4).mp hrow
    exact ⟨_, .cls b hb⟩
  · exact ⟨_, .enc8 ((matches_formatZ 0x5).mp hrow)⟩
  · obtain ⟨n, hn⟩ := (matches_formatT 0x6).mp hrow
    exact ⟨_, .enct n hn⟩
  · exact ⟨_, .enclen ((matches_formatZ 0x7).mp hrow)⟩
  · exact ⟨_, .decmax ((matches_formatZ 0x8).mp hrow)⟩
  · obtain ⟨b, hb⟩ := (matches_formatB 0x9).mp hrow
    exact ⟨_, .decb b hb⟩
  · exact ⟨_, .flush ((matches_formatZ 0xA).mp hrow)⟩
  · obtain ⟨r, rfl⟩ := (matches_formatR 0xB).mp hrow
    have hlt := hreg hrow
    rw [toNat_and_fifteen, rField_formatR] at hlt
    exact ⟨_, .rdreg r rfl hlt⟩

/-- R73, R233: the words that are no command: those of no row, and RDREG of a register 5..15. -/
def IsIllegalWord (cw : CmdWord) : Prop :=
  (∀ row ∈ Spec.commandRows, cw &&& row.2 ≠ row.1) ∨ (cw &&& 0xFFF0 = 0xB000 ∧ 5 ≤ (cw &&& 0x000F).toNat)

theorem exists_decodeCommand_iff : (∃ i, decodeCommand cw din = .ok i) ↔ ¬ IsIllegalWord cw := by
  simp only [decodeCommand_eq_ok_iff]
  constructor
  · rintro ⟨i, hi⟩ (hnone | ⟨hrow, hreg⟩)
    · obtain ⟨row, hmem, hmatch⟩ := hi.matches_row
      exact hnone row hmem hmatch
    · exact hreg.not_gt (hi.register_lt hrow)
  · intro hlegal
    unfold IsIllegalWord at hlegal
    push Not at hlegal
    obtain ⟨⟨row, hmem, hmatch⟩, hreg⟩ := hlegal
    exact exists_commandOf din hmem hmatch hreg

end Sys2Proof.Machine

/-! ### The input bytes that decode, and what they do (30_encoding.md R79) -/

namespace Sys2Proof.Machine

open Sys2Proof

/-- R100, R102: a Digit of symbol value v is the byte `ALPHABET[v]`. -/
theorem symbolByte_of_classify {b : Byte} {v : Nat} (h : classify b = .digit v) : symbolByte v = b := by
  unfold classify at h
  split at h
  · next u hu =>
    cases h
    obtain ⟨hlt, hb, -⟩ := List.findIdx?_eq_some_iff_getElem.mp hu
    rw [symbolByte, List.getD_eq_getElem _ _ hlt]
    exact beq_iff_eq.mp hb
  · split at h
    · cases h
    · split at h <;> cases h

theorem wellFormed_of_mem_digitInstrs : ∀ i ∈ digitInstrs, i.wellFormed = true := by
  simp [digitInstrs, Instr.wellFormed]

theorem exec_decb_of_digit {b : Byte} {v : Nat} (h : classify b = .digit v) (s : State) :
    exec (.decb b) s = .next (acceptDigit v s) := by
  simp [exec, execDecb, h]

/-- R79, R192: every input byte decodes, to the well-formed instruction whose word it is, and which does what
DECB of the byte does. -/
theorem exists_decode_textByte (b : Byte) :
    ∃ i, decode (.textByte b) = .ok i ∧ i.wellFormed = true ∧ encode i = .textByte b ∧
      ∀ s, exec i s = exec (.decb b) s := by
  cases hb : classify b with
  | digit v =>
    have hv : v < digitInstrs.length := length_digitInstrs ▸ classify_digit_lt b v hb
    have hi : digitInstrs[v]? = some digitInstrs[v] := List.getElem?_eq_getElem hv
    have hsym : symbolByte v = b := symbolByte_of_classify hb
    have hwf : digitInstrs[v].wellFormed = true := wellFormed_of_mem_digitInstrs _ (List.getElem_mem hv)
    refine ⟨digitInstrs[v], hsym ▸ decodeByte_symbolByte v _ hi, hwf, hsym ▸ encode_digitInstrs v _ hi, fun s => ?_⟩
    rw [(exec_digitInstrs v _ hi s).2, exec_decb_of_digit hb s]
  | delimiter =>
    exact ⟨.symDelim b, by simp [decode, decodeByte, hb], decide_eq_true hb, rfl,
      fun s => by simp [exec, execDecb, execSymDelim, hb]⟩
  | control =>
    exact ⟨.symCtrl b, by simp [decode, decodeByte, hb], decide_eq_true hb, rfl,
      fun s => by simp [exec, execDecb, execSymCtrl, hb]⟩
  | invalid =>
    exact ⟨.symInval b, by simp [decode, decodeByte, hb], decide_eq_true hb, rfl,
      fun s => by simp [exec, execDecb, execSymInval, hb]⟩

/-- R72: the operand byte of DECB stands in the low bits of its word. -/
theorem add_zeroExtend_eq_formatB (b : Byte) : 0x9000 + b.zeroExtend 16 = formatB 0x9 b := by
  have hformat : (formatB 0x9 b).toNat = 0x9000 + b.toNat :=
    (BitVec.toNat_append _ b).trans (Nat.shiftLeft_add_eq_or_of_lt b.isLt 0x90).symm
  bv_omega

end Sys2Proof.Machine

namespace Sys2Proof.Machine

open Sys2Proof

/-- Settles O1: an instruction is read back from its word (`decode_encode`). -/
theorem decodeOfEncodeIsTheInstruction : Obligations.DecodeOfEncodeIsTheInstruction := decode_encode

/-- Settles O2: a word that decodes is read by the opcode map, and an input byte by its class. -/
theorem encodeOfDecodeIsTheWord : Obligations.EncodeOfDecodeIsTheWord := by
  refine ⟨fun cw din i h => ?_, fun b => ?_⟩
  · have hi := commandOf_of_decodeCommand h
    exact ⟨hi.wellFormed, hi.encode⟩
  · obtain ⟨i, hdecode, hwf, hencode, -⟩ := exists_decode_textByte b
    exact ⟨i, hdecode, hwf, hencode⟩

/-- Settles O3: the words outside the opcode map are those that do not decode (`exists_decodeCommand_iff`), and the step
on such a word takes ILLEGAL. -/
theorem illegalWordsAreThoseOutsideTheOpcodeMap : Obligations.IllegalWordsAreThoseOutsideTheOpcodeMap := by
  intro cw din rest s hport
  refine ⟨fun hillegal => ?_, exists_decodeCommand_iff.mpr⟩
  cases hdecode : decodeCommand cw din with
  | ok i => exact absurd hillegal (exists_decodeCommand_iff.mp ⟨i, hdecode⟩)
  | error e => exact step_of_decode_error s _ rest e hport hdecode

/-- Settles O8: the byte decodes to an instruction that does what DECB of it does (`exists_decode_textByte`). -/
theorem inputByteStepIsTheDecbStep : Obligations.InputByteStepIsTheDecbStep := by
  intro s rest b din
  obtain ⟨i, hdecode, -, -, hexec⟩ := exists_decode_textByte b
  have hdecb : decode (.command (formatB 0x9 b) din) = .ok (.decb b) := CommandOf.decodeCommand (.decb b rfl)
  rw [add_zeroExtend_eq_formatB, step_of_decode_ok _ _ rest i rfl hdecode, step_of_decode_ok _ _ rest _ rfl hdecb]
  exact hexec _

/-- Settles O4: each of the twelve words is the one that the encoder writes for its instruction (`decode_encode`). -/
theorem writtenOutWordsDecode : Obligations.WrittenOutWordsDecode :=
  ⟨decode_encode .nop rfl, decode_encode .einit rfl, decode_encode (.cls 0x41) rfl, decode_encode (.enc8 _) rfl,
    decode_encode (.enct 2 _) rfl, decode_encode (.decb 0xFF) rfl, decode_encode .flush rfl,
    decode_encode (.rdreg 4) rfl, decode_encode .symDigit8 rfl, decode_encode (.symDelim 0x0A) rfl,
    decode_encode (.symCtrl 0x7F) rfl, decode_encode (.symInval 0x6C) rfl⟩

end Sys2Proof.Machine

/-! ### Every answer is a response record (30_encoding.md R76; 60_exceptions.md R258) -/

namespace Sys2Proof.Machine

open Sys2Proof

/-- What ends the work of an instruction that answers: the response of a command carried out, or an exception. -/
inductive Answered : State → Prop where
  | ok (out : List Byte) (val : ValWord) (s : State) (hout : out.length ≤ 12) : Answered (respondOk out val s)
  | raised (e : Exception) (s : State) : Answered (raise e s)

variable {s t : State}

theorem answered_respondOk_nil (val : ValWord) (s : State) : Answered (respondOk [] val s) :=
  .ok [] val s (Nat.zero_le 12)

/-- R76: a line break and a group of at most 11 symbols make at most 12 bytes. -/
theorem answered_emitGroup {q : List Nat} (hq : q.length ≤ 11) (s : State) : Answered (emitGroup q s) := by
  refine .ok _ _ _ ?_
  split <;> simp <;> omega

theorem answered_outputBytes {n : Nat} (hn : n ≤ 8) (v : Nat) (s : State) : Answered (outputBytes n v s) :=
  .ok _ _ _ (by simp; omega)

theorem answered_acceptDigit (v : Nat) (s : State) : Answered (acceptDigit v s) := by
  unfold acceptDigit
  split
  · exact answered_respondOk_nil _ _
  unfold completeGroup
  split
  · exact .raised _ _
  · exact answered_outputBytes le_rfl _ _

theorem answered_drain (ht : drain s = .next t) : Answered t := by
  unfold drain at ht
  split at ht
  · cases ht; exact answered_respondOk_nil _ _
  split at ht
  · cases ht
  split at ht
  · cases ht; exact .raised _ _
  · cases ht; exact .raised _ _
  · next n v htdec => cases ht; exact answered_outputBytes (le_eight_of_tdec htdec) _ _

theorem TextEffect.answered {o : Result} (he : TextEffect s o) (ht : o = .next t) : Answered t := by
  cases he with
  | control | invalid => cases ht; exact .raised _ _
  | delimiter => cases ht; exact answered_respondOk_nil _ _
  | digit v _ => cases ht; exact answered_acceptDigit v s

theorem ExecEffect.answered {i : Instr} {o : Result} (he : ExecEffect s i o) (ht : o = .next t) : Answered t := by
  cases he with
  | rst | dinit | einit | enctNone | nop | cls | enclen | decmax | rdreg => cases ht; exact answered_respondOk_nil _ _
  | enc8 => cases ht; exact answered_emitGroup (length_genc_le _) s
  | enct => cases ht; exact answered_emitGroup (length_tenc_le _ _) s
  | rdregNone | symCtrl | symInval => cases ht; exact .raised _ _
  | flush => exact answered_drain ht
  | decb _ _ htext => exact htext.answered ht
  | symDelim => cases ht; exact answered_respondOk_nil _ _
  | digit _ v => cases ht; exact answered_acceptDigit v s

/-- R258: `acc` is 0 for CONTROL, INVALID and ILLEGAL, and for no other exception. -/
theorem exceptionAcc_eq_false_iff (e : Exception) : exceptionAcc e = false ↔
    exceptionStatus e = .control ∨ exceptionStatus e = .invalid ∨ exceptionStatus e = .illegal := by
  cases e <;> decide

/-- R76, R258: an answer is a response record. -/
theorem Answered.record (h : Answered t) : ∃ r, t.resp = some r ∧ r.out.length ≤ 12 ∧
    (r.acc = false ↔ r.st = .control ∨ r.st = .invalid ∨ r.st = .illegal) ∧
    (r.st ≠ .ok → r.out = [] ∧ r.val = 0) := by
  cases h with
  | ok out val s hout => exact ⟨⟨.ok, true, out, val⟩, rfl, hout, by simp, fun hst => absurd rfl hst⟩
  | raised e s =>
    exact ⟨⟨exceptionStatus e, exceptionAcc e, [], 0⟩, rfl, Nat.zero_le 12, exceptionAcc_eq_false_iff e,
      fun _ => ⟨rfl, rfl⟩⟩

/-- R58: an instruction carried out with any words waiting leaves them as they are. -/
theorem port_of_exec {i : Instr} (ht : exec i s = .next t) : t.port = s.port := by
  have h := exec_withPort i s s.port
  rw [show s.withPort s.port = s from rfl, ht] at h
  injection h with hport
  exact (congrArg State.port hport :)

end Sys2Proof.Machine

namespace Sys2Proof.Machine

/-- Settles O54: what waits is left alone (`port_of_exec`), and every answer ends in a response or an exception
(`ExecEffect.answered`), each of them a response record. -/
theorem everyAnswerIsAResponseRecord : Obligations.EveryAnswerIsAResponseRecord :=
  fun i s _ ht => ⟨port_of_exec ht, ((exec_effect i s).answered ht).record⟩

end Sys2Proof.Machine

/-! ### The entries of `CLASS` (40_classifier.md R102, R106, R108) -/

namespace Sys2Proof.Machine

open Sys2Proof

/-- R102: the entry of a Digit is its symbol value, which fits in bits 5..0 (`classify_digit_lt`). -/
theorem toNat_classEntry_of_digit {b : Byte} {v : Nat} (h : classify b = .digit v) : (classEntry b).toNat = v := by
  have hv : v < 57 := classify_digit_lt b v h
  simp only [classEntry, h, BitVec.toNat_append, BitVec.toNat_ofNat]
  rw [Nat.mod_eq_of_lt (by omega : v < 2 ^ 6)]
  simp

/-- R102: the entries of the other three classes have a class code in bits 7..6 that is not 0. -/
theorem exists_digit_of_classEntry_lt {b : Byte} (h : (classEntry b).toNat < 64) : ∃ v, classify b = .digit v := by
  cases hb : classify b with
  | digit v => exact ⟨v, rfl⟩
  | delimiter | control | invalid => simp [classEntry, hb] at h

/-- R106: the classifier agrees with the table of ranges at each of the 256 bytes. -/
theorem toNat_classEntry (b : Byte) : (classEntry b).toNat = Spec.classByRanges b.toNat := by
  have key : ∀ b : Byte, (classEntry b).toNat = Spec.classByRanges b.toNat := by decide +kernel
  exact key b

/-- R106: the class codes of all bytes, in the order of the bytes, read off the table of ranges. -/
theorem classCodes_eq_ranges :
    ((List.range 256).map fun b => (classEntry (BitVec.ofNat 8 b)).toNat / 64) =
      (List.range 256).map fun b => Spec.classByRanges b / 64 := by
  refine List.map_congr_left fun b hb => ?_
  have hlt : b < 2 ^ 8 := List.mem_range.mp hb
  rw [toNat_classEntry, BitVec.toNat_ofNat, Nat.mod_eq_of_lt hlt]

/-- Settles O5: both directions of the inverse come from what the classifier says of a Digit (`classify_symbolByte`,
`symbolByte_of_classify`), the line break and the counts from the table of ranges. -/
theorem digitEntriesInvertTheAlphabet : Obligations.DigitEntriesInvertTheAlphabet := by
  unfold Obligations.DigitEntriesInvertTheAlphabet
  rw [classCodes_eq_ranges, toNat_classEntry config.lineBreak]
  refine ⟨fun v hv => toNat_classEntry_of_digit (classify_symbolByte v hv), fun b hb => ?_, rfl, ?_⟩
  · obtain ⟨v, hdigit⟩ := exists_digit_of_classEntry_lt hb
    rw [toNat_classEntry_of_digit hdigit]
    exact ⟨classify_digit_lt b v hdigit, symbolByte_of_classify hdigit⟩
  · decide +kernel

/-- Settles O18: CLS only responds, and the entry that it responds with is that of the table of ranges
(`toNat_classEntry`). -/
theorem clsReturnsTheClassEntry : Obligations.ClsReturnsTheClassEntry := by
  intro b s
  have hval : (classEntry b).zeroExtend 65 = BitVec.ofNat 65 (Spec.classByRanges b.toNat) := by
    rw [← toNat_classEntry, BitVec.ofNat_toNat]
  rw [← hval, exec, execCls, respondOk_eq]

end Sys2Proof.Machine

/-! ### Mixed radix: the digits of an integer and the integer of digits (41_radix_codec.md R120, R121) -/

namespace Sys2Proof.Machine

open Sys2Proof

/-- The integer of digits in the given bases, by Horner's rule; `groupValue` computes the same integer from the table of
magnitudes (`groupValue_eq_mixedValue`). -/
def mixedValue : List Nat → List Nat → Nat
  | b :: bs, d :: ds => d + b * mixedValue bs ds
  | _, _ => 0

/-- Each digit is in range for its position (R126), and there are as many digits as bases. -/
abbrev DigitsFit (ds bs : List Nat) : Prop := List.Forall₂ (· < ·) ds bs

@[simp] theorem mixedValue_nil (bs : List Nat) : mixedValue bs [] = 0 := by cases bs <;> rfl

@[simp] theorem mixedValue_cons (b d : Nat) (bs ds : List Nat) :
    mixedValue (b :: bs) (d :: ds) = d + b * mixedValue bs ds := rfl

/-- R8, R127: weighting each digit by the product of the lower bases is Horner's rule. -/
theorem sum_zipWith_productsFrom (w : Nat) (bs ds : List Nat) (h : ds.length ≤ bs.length) :
    (List.zipWith (· * ·) ds (productsFrom w bs)).sum = w * mixedValue (bs.take ds.length) ds := by
  induction ds generalizing w bs with
  | nil => simp
  | cons d ds ih =>
    cases bs with
    | nil => simp at h
    | cons b bs =>
      have htail := ih (w * b) bs (by simpa using h)
      simp only [productsFrom, List.zipWith_cons_cons, List.sum_cons, htail, List.length_cons, List.take_succ_cons,
        mixedValue_cons]
      ring

theorem groupValue_eq_mixedValue (d : List Nat) (h : d.length ≤ 11) :
    groupValue d = mixedValue (base.take d.length) d := by
  rw [groupValue, mags, sum_zipWith_productsFrom 1 base d (by rwa [length_base]), Nat.one_mul]

/-- R127: the lowest digits of a group as a sum over their positions. -/
theorem groupValue_take (d : List Nat) (k : Nat) (hk : k ≤ d.length) (hd : d.length ≤ 11) :
    groupValue (d.take k) = ((List.range k).map fun i => d.getD i 0 * mag i).sum := by
  have hmags : mags.length = 12 := by rw [mags_eq_magTable]; rfl
  refine congrArg List.sum (List.ext_getElem (by simp; omega) fun i hi _ => ?_)
  have hik : i < k := by simp at hi; omega
  simp [mag, List.getElem?_eq_getElem (show i < d.length by omega),
    List.getElem?_eq_getElem (show i < mags.length by omega)]

/-- R127: the sum that GDEC forms in two parts, the ten lower digits and then the top one. -/
theorem groupValue_eq_lower_add_top (d : List Nat) (h : d.length = 11) :
    groupValue d = groupValue (d.take 10) + d.getD 10 0 * mag 10 := by
  have hfull := groupValue_take d 11 h.ge h.le
  rwa [List.take_of_length_le h.le, List.sum_range_succ, ← groupValue_take d 10 (by omega) h.le] at hfull

/-! #### Digits from integers -/

theorem getElem_digitsIn (bs : List Nat) (x i : Nat) (h : i < bs.length) :
    (digitsIn bs x)[i]'(by simpa using h) = x / (bs.take i).prod % bs[i] := by
  induction bs generalizing x i with
  | nil => simp at h
  | cons b bs ih =>
    cases i with
    | zero => simp
    | succ i => simpa [Nat.div_div_eq_div_mul] using ih (x / b) i (by simpa using h)

/-- R121: the digits hold the integer up to a multiple of the product of the bases. -/
theorem mixedValue_digitsIn (bs : List Nat) (x : Nat) : mixedValue bs (digitsIn bs x) = x % bs.prod := by
  induction bs generalizing x with
  | nil => simp [Nat.mod_one]
  | cons b bs ih => rw [digitsIn_cons, mixedValue_cons, ih, List.prod_cons, Nat.mod_mul]

/-! #### Integers from digits -/

theorem mixedValue_lt_prod {ds bs : List Nat} (h : DigitsFit ds bs) : mixedValue bs ds < bs.prod := by
  induction h with
  | nil => simp
  | @cons d b ds bs hd _ ih =>
    calc d + b * mixedValue bs ds < b * (mixedValue bs ds + 1) := by rw [Nat.mul_succ]; omega
      _ ≤ b * bs.prod := Nat.mul_le_mul_left b ih

/-- R129: digits in range are the digits of their integer, so no other digits in range have it. -/
theorem digitsIn_mixedValue {ds bs : List Nat} (h : DigitsFit ds bs) : digitsIn bs (mixedValue bs ds) = ds := by
  induction h with
  | nil => rfl
  | @cons d b ds bs hd _ ih =>
    have hmod : (d + b * mixedValue bs ds) % b = d := by rw [Nat.add_mul_mod_self_left, Nat.mod_eq_of_lt hd]
    have hdiv : (d + b * mixedValue bs ds) / b = mixedValue bs ds := by
      rw [Nat.add_mul_div_left _ _ (by omega), Nat.div_eq_of_lt hd, Nat.zero_add]
    rw [mixedValue_cons, digitsIn_cons, hmod, hdiv, ih]

/-! #### The digits of a group -/

theorem base_bounds : ∀ b ∈ base, 0 < b ∧ b ≤ 57 := by decide

theorem baseAt_eq_getElem (i : Nat) (h : i < base.length) : Spec.baseAt i = base[i] := by
  rw [Spec.baseAt, ← base_eq_baseTable, List.getD_eq_getElem base 0 h]

theorem baseAt_bounds (i : Nat) (h : i < 11) : 0 < Spec.baseAt i ∧ Spec.baseAt i ≤ 57 := by
  rw [baseAt_eq_getElem i (by rwa [length_base])]
  exact base_bounds _ (List.getElem_mem _)

/-- R126: a group passes the range test when each of its digits is below the base at its position. -/
theorem outOfRange_eq_false_iff (d : List Nat) (h : d.length ≤ 11) :
    outOfRange d = false ↔ ∀ i < d.length, d.getD i 0 < Spec.baseAt i := by
  have hlen : (d.zip base).length = d.length := by rw [List.length_zip, length_base, min_eq_left h]
  simp only [outOfRange, List.any_eq_false, List.forall_mem_iff_getElem, hlen]
  refine forall₂_congr fun i hi => ?_
  simp [baseAt_eq_getElem i (show i < base.length by rw [length_base]; omega), List.getElem?_eq_getElem hi]

theorem digitsFit_of_outOfRange {d : List Nat} (h : d.length ≤ 11) (hrange : outOfRange d = false) :
    DigitsFit d (base.take d.length) := by
  refine List.forall₂_iff_get.mpr ⟨by simp [length_base, h], fun i hi hi' => ?_⟩
  have hdigit := (outOfRange_eq_false_iff d h).mp hrange i hi
  rw [baseAt_eq_getElem i (by rw [length_base]; omega), List.getD_eq_getElem _ _ hi] at hdigit
  simpa using hdigit

theorem outOfRange_take {d : List Nat} (k : Nat) (h : d.length ≤ 11) (hrange : outOfRange d = false) :
    outOfRange (d.take k) = false := by
  rw [outOfRange_eq_false_iff d h] at hrange
  refine (outOfRange_eq_false_iff _ (by simp; omega)).mpr fun i hi => ?_
  have hik : i < k ∧ i < d.length := by simpa using hi
  simpa [List.getElem?_take, hik.1] using hrange i hik.2

/-- Digits in range sum to less than the next magnitude. -/
theorem groupValue_lt_mag {d : List Nat} (h : d.length ≤ 11) (hrange : outOfRange d = false) :
    groupValue d < mag d.length := by
  rw [groupValue_eq_mixedValue d h, mag_eq_prod _ h]
  exact mixedValue_lt_prod (digitsFit_of_outOfRange h hrange)

/-- R129: digits in range are the digits of their sum. -/
theorem digits_groupValue {d : List Nat} (h : d.length ≤ 11) (hrange : outOfRange d = false) :
    digits (groupValue d) d.length = d := by
  rw [groupValue_eq_mixedValue d h]
  exact digitsIn_mixedValue (digitsFit_of_outOfRange h hrange)

/-- R121: the k lowest digits hold the integer up to a multiple of `MAG[k]`. -/
theorem groupValue_digits (x k : Nat) (h : k ≤ 11) : groupValue (digits x k) = x % mag k := by
  have hlen := length_digits x k h
  rw [groupValue_eq_mixedValue _ (hlen.trans_le h), hlen, mag_eq_prod k h]
  exact mixedValue_digitsIn _ x

/-- R120: the i-th digit in the mixed radix of `BASE`. -/
theorem getD_digits (x : Nat) {k i : Nat} (hik : i < k) (hk : k ≤ 11) : (digits x k).getD i 0 = Spec.digit x i := by
  have hi : i < base.length := by rw [length_base]; omega
  rw [List.getD_eq_getElem _ 0 (by rwa [length_digits x k hk])]
  simp only [digits]
  rw [getElem_digitsIn _ x i (by simp; omega), List.take_take, min_eq_left hik.le, List.getElem_take,
    ← mag_eq_prod i (by omega), mag_eq_magAt, Spec.digit, baseAt_eq_getElem i hi]

/-- R120: the encoder's digits are in range. -/
theorem getD_digits_lt (x : Nat) {k i : Nat} (hik : i < k) (hk : k ≤ 11) :
    (digits x k).getD i 0 < Spec.baseAt i := by
  rw [getD_digits x hik hk]
  exact Nat.mod_lt _ (baseAt_bounds i (by omega)).1

theorem outOfRange_digits (x k : Nat) (h : k ≤ 11) : outOfRange (digits x k) = false := by
  have hlen := length_digits x k h
  rw [outOfRange_eq_false_iff _ (hlen.trans_le h), hlen]
  exact fun i hi => getD_digits_lt x hi h

theorem lt_mag_eleven {x : Nat} (h : x < 2 ^ 64) : x < mag 11 := h.trans (by norm_num [mag_eleven])

/-- R121: the eleven digits hold a 64-bit integer whole. -/
theorem groupValue_digits_eleven {x : Nat} (h : x < 2 ^ 64) : groupValue (digits x 11) = x := by
  rw [groupValue_digits x 11 le_rfl, Nat.mod_eq_of_lt (lt_mag_eleven h)]

theorem digits_lt (x k : Nat) (h : k ≤ 11) : ∀ v ∈ digits x k, v < 57 := by
  refine List.forall_mem_iff_getElem.mpr fun i hi => ?_
  have hik : i < k := by rwa [length_digits x k h] at hi
  have hlt := getD_digits_lt x hik h
  rw [List.getD_eq_getElem _ _ hi] at hlt
  exact hlt.trans_le (baseAt_bounds i (by omega)).2

end Sys2Proof.Machine

/-! ### The offset between digits and symbol values (41_radix_codec.md R122, R124) -/

namespace Sys2Proof.Machine

open Sys2Proof

/-- R122: each symbol value from the one before it and its own digit. -/
theorem symbolsAfter_recurrence (p : Nat) (ds : List Nat) (i : Nat) (h : i < ds.length) :
    (symbolsAfter p ds).getD i 0 = ((p :: symbolsAfter p ds).getD i 0 + 1 + ds.getD i 0) % 57 := by
  induction ds generalizing p i with
  | nil => simp at h
  | cons d ds ih =>
    cases i with
    | zero => simp
    | succ i => simpa using ih ((p + 1 + d) % 57) i (by simpa using h)

theorem symbols_recurrence (d : List Nat) (i : Nat) (h : i + 1 < d.length) :
    (symbols d).getD (i + 1) 0 = ((symbols d).getD i 0 + 1 + d.getD (i + 1) 0) % 57 := by
  cases d with
  | nil => simp at h
  | cons d ds => simpa using symbolsAfter_recurrence d ds i (by simpa using h)

/-- R124: each digit from its own symbol value and the one before it. -/
theorem digitsAfter_recurrence (p : Nat) (vs : List Nat) (i : Nat) (h : i < vs.length) :
    (digitsAfter p vs).getD i 0 = (vs.getD i 0 + 57 - ((p :: vs).getD i 0 + 1) % 57) % 57 := by
  induction vs generalizing p i with
  | nil => simp at h
  | cons v vs ih =>
    cases i with
    | zero => simp
    | succ i => simpa using ih v i (by simpa using h)

theorem digitsOfSymbols_recurrence (s : List Nat) (i : Nat) (h : i + 1 < s.length) (hs : ∀ v ∈ s, v < 57) :
    (digitsOfSymbols s).getD (i + 1) 0 = (s.getD (i + 1) 0 + 56 - s.getD i 0) % 57 := by
  have hprev : s.getD i 0 < 57 := by
    rw [List.getD_eq_getElem s 0 (by omega)]
    exact hs _ (List.getElem_mem _)
  cases s with
  | nil => simp at h
  | cons v vs =>
    rw [digitsOfSymbols_cons, List.getD_cons_succ, digitsAfter_recurrence v vs i (by simpa using h),
      List.getD_cons_succ]
    omega

/-- R124: undoing the offset is subtraction modulo 57, which undoes the addition of R122 on values below 57. -/
theorem digitsAfter_symbolsAfter (p : Nat) (ds : List Nat) (h : ∀ v ∈ ds, v < 57) :
    digitsAfter p (symbolsAfter p ds) = ds := by
  induction ds generalizing p with
  | nil => rfl
  | cons d ds ih =>
    rw [List.forall_mem_cons] at h
    have hd : ((p + 1 + d) % 57 + 57 - (p + 1) % 57) % 57 = d := by omega
    rw [symbolsAfter_cons, digitsAfter_cons, ih _ h.2, hd]

theorem symbolsAfter_digitsAfter (p : Nat) (vs : List Nat) (h : ∀ v ∈ vs, v < 57) :
    symbolsAfter p (digitsAfter p vs) = vs := by
  induction vs generalizing p with
  | nil => rfl
  | cons v vs ih =>
    rw [List.forall_mem_cons] at h
    have hv : (p + 1 + (v + 57 - (p + 1) % 57) % 57) % 57 = v := by omega
    rw [digitsAfter_cons, symbolsAfter_cons, hv, ih v h.2]

theorem digitsOfSymbols_symbols (d : List Nat) (h : ∀ v ∈ d, v < 57) : digitsOfSymbols (symbols d) = d := by
  cases d with
  | nil => rfl
  | cons d ds => rw [symbols_cons, digitsOfSymbols_cons, digitsAfter_symbolsAfter d ds (List.forall_mem_cons.mp h).2]

theorem symbols_digitsOfSymbols (s : List Nat) (h : ∀ v ∈ s, v < 57) : symbols (digitsOfSymbols s) = s := by
  cases s with
  | nil => rfl
  | cons v vs => rw [digitsOfSymbols_cons, symbols_cons, symbolsAfter_digitsAfter v vs (List.forall_mem_cons.mp h).2]

theorem digitsAfter_lt (p : Nat) (vs : List Nat) : ∀ v ∈ digitsAfter p vs, v < 57 := by
  induction vs generalizing p with
  | nil => simp
  | cons v vs ih => exact List.forall_mem_cons.mpr ⟨Nat.mod_lt _ (show 57 > 0 by omega), ih v⟩

theorem digitsOfSymbols_lt (s : List Nat) (h : ∀ v ∈ s, v < 57) : ∀ v ∈ digitsOfSymbols s, v < 57 := by
  cases s with
  | nil => simp
  | cons v vs => exact List.forall_mem_cons.mpr ⟨(List.forall_mem_cons.mp h).1, digitsAfter_lt v vs⟩

/-- R122: the recurrence summed up; the first symbol value is the first digit, and each later position adds 1 and its
digit. -/
theorem symbols_closed_form (d : List Nat) (h : ∀ v ∈ d, v < 57) (i : Nat) (hi : i < d.length) :
    (symbols d).getD i 0 = (i + (d.take (i + 1)).sum) % 57 := by
  induction i with
  | zero =>
    cases d with
    | nil => simp at hi
    | cons d ds => simp [Nat.mod_eq_of_lt (List.forall_mem_cons.mp h).1]
  | succ i ih =>
    rw [symbols_recurrence d i hi, ih (by omega), List.sum_take_succ d (i + 1) hi, List.getD_eq_getElem d 0 hi]
    omega

end Sys2Proof.Machine

/-! ### When a full group decodes (41_radix_codec.md R126, R127) -/

namespace Sys2Proof.Machine

open Sys2Proof

/-- R127, R10: the quick check on the top digit finds exactly the sums that do not fit 64 bits. -/
theorem quickCheck_iff (acc top : Nat) (hacc : acc < mag 10) (htop : top < 56) :
    top = dmax10 ∧ lim10 < acc ↔ 2 ^ 64 ≤ acc + top * mag 10 := by
  rw [mag_ten] at *
  rw [lim10_eq, dmax10]
  omega

/-- R127: GDEC answers with the sum of a group in range when it fits 64 bits. -/
theorem gdec_eq (s : List Nat) (hlen : s.length = 11) :
    gdec s = if outOfRange (digitsOfSymbols s) ∨ 2 ^ 64 ≤ groupValue (digitsOfSymbols s) then .overflow
      else .value (groupValue (digitsOfSymbols s)) := by
  have hd : (digitsOfSymbols s).length = 11 := by rwa [length_digitsOfSymbols]
  unfold gdec
  generalize digitsOfSymbols s = d at hd
  cases hrange : outOfRange d with
  | true => simp [hrange]
  | false =>
    have hlow : groupValue (d.take 10) < mag 10 := by
      simpa [hd] using groupValue_lt_mag (by simp) (outOfRange_take 10 hd.le hrange)
    have htop : d.getD 10 0 < 56 := (outOfRange_eq_false_iff d hd.le).mp hrange 10 (by omega)
    simp only [hrange, quickCheck_iff _ _ hlow htop, ← groupValue_eq_lower_add_top d hd, Bool.false_eq_true, if_false,
      false_or]

theorem gdec_eq_value_iff (s : List Nat) (x : Nat) (hlen : s.length = 11) :
    gdec s = .value x ↔
      outOfRange (digitsOfSymbols s) = false ∧ groupValue (digitsOfSymbols s) = x ∧ x < 2 ^ 64 := by
  rw [gdec_eq s hlen]
  split
  · next h =>
    simp only [reduceCtorEq, false_iff]
    rintro ⟨hrange, rfl, hx⟩
    exact h.elim (by simp [hrange]) hx.not_ge
  · next h =>
    obtain ⟨hrange, hx⟩ := not_or.mp h
    simp only [GroupResult.value.injEq]
    exact ⟨fun hsum => ⟨eq_false_of_ne_true hrange, hsum, hsum ▸ not_le.mp hx⟩, fun ⟨_, hsum, _⟩ => hsum⟩

end Sys2Proof.Machine

namespace Sys2Proof.Machine

open Sys2Proof

/-- Settles O31: the decoder undoes the offset and sums the digits again; conversely the digits of a group that decodes
are the digits of its value (`digits_groupValue`), and its symbols those of the digits. -/
theorem fullGroupRoundTrip : Obligations.FullGroupRoundTrip := by
  refine ⟨fun x hx => ?_, fun s x hlen hs hvalue => ?_⟩
  · have hdigits : digitsOfSymbols (genc x) = digits x 11 := digitsOfSymbols_symbols _ (digits_lt x 11 le_rfl)
    have hlen : (genc x).length = 11 := (length_symbols _).trans (length_digits x 11 le_rfl)
    rw [gdec_eq_value_iff _ _ hlen, hdigits]
    exact ⟨outOfRange_digits x 11 le_rfl, groupValue_digits_eleven hx, hx⟩
  · have hd : (digitsOfSymbols s).length = 11 := by rwa [length_digitsOfSymbols]
    obtain ⟨hrange, rfl, hx⟩ := (gdec_eq_value_iff s x hlen).mp hvalue
    have hdigits := digits_groupValue hd.le hrange
    rw [hd] at hdigits
    refine ⟨hx, ?_⟩
    calc s = symbols (digitsOfSymbols s) := (symbols_digitsOfSymbols s hs).symm
      _ = genc (groupValue (digitsOfSymbols s)) := congrArg symbols hdigits.symm

/-- Settles O26: position by position (`getD_digits`). -/
theorem digitsArePositional : Obligations.DigitsArePositional := by
  intro x k _ hk
  refine ⟨List.ext_getElem (by simp [length_digits x k hk]) fun i hi _ => ?_, fun i hi => getD_digits_lt x hi hk⟩
  have hik : i < k := by rwa [length_digits x k hk] at hi
  rw [← List.getD_eq_getElem _ 0 hi, getD_digits x hik hk, List.getElem_map, List.getElem_range]

/-- Settles O27: `MAG[11]` exceeds 2^64, so nothing is left above the eleventh digit; the top digit is in range for
base 56. -/
theorem fullGroupDigitsSumToTheInteger : Obligations.FullGroupDigitsSumToTheInteger := by
  intro x hx
  have hquotient : x / Spec.magAt 11 = 0 := by
    rw [← mag_eq_magAt, Nat.div_eq_of_lt (lt_mag_eleven hx)]
  have htop : (digits x 11).getD 10 0 < 56 := getD_digits_lt x (by omega) le_rfl
  exact ⟨groupValue_digits_eleven hx, hquotient, Nat.le_of_lt_succ htop⟩

/-- Settles O28: the closed form follows from the recurrence by induction on the position (`symbols_closed_form`). -/
theorem symbolsAccumulateTheOffset : Obligations.SymbolsAccumulateTheOffset := by
  intro d hd
  exact ⟨length_symbols d, by cases d <;> rfl, symbols_recurrence d, symbols_closed_form d hd⟩

/-- Settles O29: both functions keep the values below 57 and undo each other position by position
(`digitsOfSymbols_symbols`, `symbols_digitsOfSymbols`). -/
theorem offsetInversionIsABijection : Obligations.OffsetInversionIsABijection :=
  ⟨digitsOfSymbols_symbols, fun s hs => ⟨symbols_digitsOfSymbols s hs, digitsOfSymbols_lt s hs, by cases s <;> rfl,
    fun i hi => digitsOfSymbols_recurrence s i hi hs⟩⟩

/-- Settles O30: the range test and the sum of GDEC (`gdec_eq_value_iff`), read position by position. -/
theorem groupDecodesExactlyWhenItFits : Obligations.GroupDecodesExactlyWhenItFits := by
  intro s x hlen _
  have hd : (digitsOfSymbols s).length = 11 := by rwa [length_digitsOfSymbols]
  have hsum := groupValue_take (digitsOfSymbols s) 11 hd.ge hd.le
  rw [List.take_of_length_le hd.le] at hsum
  simp only [mag_eq_magAt] at hsum
  rw [gdec_eq_value_iff s x hlen, outOfRange_eq_false_iff _ hd.le, hd, hsum, eq_comm, Nat.lt_iff_le_pred (by norm_num)]

end Sys2Proof.Machine

/-! ### Tables and digit lists of a tail (42_tail.md R150, R151, R152) -/

namespace Sys2Proof.Machine

open Sys2Proof

/-- R9: the groups of 1 to 10 symbols are those of 1 to 7 bytes. -/
theorem digitsOf_partial_iff {n : Nat} (h : n ≤ 8) : 1 ≤ digitsOf n ∧ digitsOf n ≤ 10 ↔ 1 ≤ n ∧ n ≤ 7 := by
  interval_cases n <;> decide

/-- R151: `DIGITS[n]` digits can hold `n` bytes. -/
theorem pow_le_mag_digitsOf {n : Nat} (h : n ≤ 7) : 256 ^ n ≤ mag (digitsOf n) := by
  rw [mag_eq_magAt]
  interval_cases n <;> decide

/-- R151: one digit fewer cannot. -/
theorem mag_pred_digitsOf_lt_pow {n : Nat} (hpos : 1 ≤ n) (h : n ≤ 7) : mag (digitsOf n - 1) < 256 ^ n := by
  rw [mag_eq_magAt]
  interval_cases n <;> decide

theorem mag_mono {i j : Nat} (hij : i ≤ j) (hj : j ≤ 11) : mag i ≤ mag j := by
  induction j, hij using Nat.le_induction with
  | base => exact le_rfl
  | succ j _ ih =>
    have hbase : 0 < base.getD j 0 := (baseAt_bounds j (by omega)).1
    rw [mag_succ j (by omega)]
    exact (ih (by omega)).trans (Nat.le_mul_of_pos_right _ hbase)

/-- R153: no base exceeds 57. -/
theorem mag_le_pow {k : Nat} (h : k ≤ 11) : mag k ≤ 57 ^ k := by
  have hlen : (base.take k).length = k := by simp [length_base, h]
  calc mag k = (base.take k).prod := mag_eq_prod k h
    _ ≤ 57 ^ (base.take k).length :=
      List.prod_le_pow_card _ _ fun b hb => (base_bounds b (List.mem_of_mem_take hb)).2
    _ = 57 ^ k := by rw [hlen]

/-- R120: above the magnitude of an integer its digits are 0. -/
theorem digit_eq_zero_of_lt_mag {x i : Nat} (h : x < mag i) : Spec.digit x i = 0 := by
  rw [Spec.digit, ← mag_eq_magAt, Nat.div_eq_of_lt h, Nat.zero_mod]

/-- R151: truncating the digits of `n` bytes to `DIGITS[n]` loses nothing. -/
theorem groupValue_digits_digitsOf {n v : Nat} (hpos : 1 ≤ n) (hn : n ≤ 7) (hv : v < 256 ^ n) :
    groupValue (digits v (digitsOf n)) = v := by
  have hlen : digitsOf n ≤ 10 := ((digitsOf_partial_iff (by omega)).mpr ⟨hpos, hn⟩).2
  rw [groupValue_digits v _ (by omega), Nat.mod_eq_of_lt (hv.trans_le (pow_le_mag_digitsOf hn))]

/-- R152: when TDEC answers with a value: a byte count, digits in range, and a sum that fits the bytes. -/
theorem tdec_eq_value_iff (s : List Nat) (n v : Nat) :
    tdec s = .value n v ↔ bytesOf s.length = some n ∧ outOfRange (digitsOfSymbols s) = false ∧
      groupValue (digitsOfSymbols s) = v ∧ v < 256 ^ n := by
  unfold tdec
  cases hbytes : bytesOf s.length with
  | none => simp
  | some m =>
    cases hrange : outOfRange (digitsOfSymbols s) with
    | true => simp [hrange]
    | false =>
      by_cases hfit : 256 ^ m ≤ groupValue (digitsOfSymbols s)
      · simp only [hrange, hfit, Bool.false_eq_true, if_false, if_true, reduceCtorEq, false_iff]
        rintro ⟨⟨⟩, _, rfl, hv⟩
        exact hv.not_ge hfit
      · simp only [hrange, hfit, Bool.false_eq_true, if_false, TailResult.value.injEq, Option.some.injEq, true_and]
        exact ⟨fun ⟨hm, hv⟩ => ⟨hm, hv, hv ▸ hm ▸ not_le.mp hfit⟩, fun ⟨hm, hv, _⟩ => ⟨hm, hv⟩⟩

end Sys2Proof.Machine

/-! ### The source's continuation of a partial group (42_tail.md R153) -/

namespace Sys2Proof.Machine

open Sys2Proof

/-- R124: the offset of a concatenation is undone part by part, the second part from the last symbol of the first. -/
theorem digitsAfter_append (p : Nat) (as bs : List Nat) :
    digitsAfter p (as ++ bs) = digitsAfter p as ++ digitsAfter (as.getLastD p) bs := by
  induction as generalizing p with
  | nil => rfl
  | cons a as ih =>
    rw [List.cons_append, digitsAfter_cons, ih a, digitsAfter_cons, List.getLastD_cons, List.cons_append]

theorem digitsOfSymbols_append {s : List Nat} (h : s ≠ []) (bs : List Nat) :
    digitsOfSymbols (s ++ bs) = digitsOfSymbols s ++ digitsAfter (s.getLastD 0) bs := by
  cases s with
  | nil => exact absurd rfl h
  | cons v vs =>
    rw [List.cons_append, digitsOfSymbols_cons, digitsAfter_append, digitsOfSymbols_cons, List.getLastD_cons,
      List.cons_append]

/-- R153: successive symbol values are the spelling of zero digits. -/
theorem symbolsAfter_replicate_zero (p m : Nat) :
    symbolsAfter p (List.replicate m 0) = (List.range m).map fun j => (p + 1 + j) % 57 := by
  induction m generalizing p with
  | zero => rfl
  | succ m ih =>
    rw [List.replicate_succ, symbolsAfter_cons, ih, List.range_succ_eq_map, List.map_cons, List.map_map]
    refine congrArg _ (List.map_congr_left fun j _ => ?_)
    simp only [Function.comp_apply]
    omega

/-- R153: the continuation of a partial group adds digits 0. -/
theorem digitsOfSymbols_continuation {s : List Nat} (h : s ≠ []) (m : Nat) :
    digitsOfSymbols (s ++ (List.range m).map fun j => (s.getLastD 0 + 1 + j) % 57) =
      digitsOfSymbols s ++ List.replicate m 0 := by
  have hzero : ∀ v ∈ List.replicate m 0, v < 57 := fun v hv => by simp [List.eq_of_mem_replicate hv]
  rw [digitsOfSymbols_append h, ← symbolsAfter_replicate_zero, digitsAfter_symbolsAfter _ _ hzero]

theorem sum_zipWith_append_zeros (d ws : List Nat) (m : Nat) :
    (List.zipWith (· * ·) (d ++ List.replicate m 0) ws).sum = (List.zipWith (· * ·) d ws).sum := by
  induction d generalizing ws with
  | nil =>
    refine List.sum_eq_zero fun x hx => ?_
    obtain ⟨i, hi, rfl⟩ := List.getElem_of_mem hx
    simp
  | cons d ds ih =>
    cases ws with
    | nil => rfl
    | cons w ws => simp [ih]

/-- R127: digits 0 above a group add nothing to its sum. -/
theorem groupValue_append_zeros (d : List Nat) (m : Nat) : groupValue (d ++ List.replicate m 0) = groupValue d :=
  sum_zipWith_append_zeros d mags m

/-- R126: digits 0 above a group are in range. -/
theorem outOfRange_append_zeros {d : List Nat} {m : Nat} (h : d.length + m ≤ 11) (hrange : outOfRange d = false) :
    outOfRange (d ++ List.replicate m 0) = false := by
  rw [outOfRange_eq_false_iff d (by omega)] at hrange
  rw [outOfRange_eq_false_iff _ (by simpa using h)]
  intro i hi
  rw [List.length_append, List.length_replicate] at hi
  by_cases hid : i < d.length
  · rw [List.getD_append _ _ _ _ hid]
    exact hrange i hid
  · rw [List.getD_append_right _ _ _ _ (by omega), List.getD_replicate 0 (by omega)]
    exact (baseAt_bounds i (by omega)).1

end Sys2Proof.Machine

namespace Sys2Proof.Machine

open Sys2Proof

/-- Settles O32: the digits of `n` bytes lose nothing by truncation, so the decoder finds them and their sum again;
conversely the digits of a tail that decodes are the digits of its value (`digits_groupValue`), as many as
`DIGITS[n]`. -/
theorem tailRoundTrip : Obligations.TailRoundTrip := by
  refine ⟨fun n v hpos hn hv => ?_, fun s n v hpos hlen hs hvalue => ?_⟩
  · have hk : digitsOf n ≤ 11 := ((digitsOf_partial_iff (by omega)).mpr ⟨hpos, hn⟩).2.trans (by omega)
    have hdigits : digitsOfSymbols (tenc n v) = digits v (digitsOf n) := digitsOfSymbols_symbols _ (digits_lt v _ hk)
    have hlen : (tenc n v).length = digitsOf n := (length_symbols _).trans (length_digits v _ hk)
    rw [tdec_eq_value_iff, hdigits, hlen]
    exact ⟨bytesOf_digitsOf n (by omega), outOfRange_digits v _ hk, groupValue_digits_digitsOf hpos hn hv, hv⟩
  · obtain ⟨hbytes, hrange, rfl, hv⟩ := (tdec_eq_value_iff s n v).mp hvalue
    obtain ⟨hn8, hk⟩ := eq_digitsOf_of_bytesOf _ _ hbytes
    obtain ⟨hn, hn7⟩ := (digitsOf_partial_iff hn8).mp ⟨hk ▸ hpos, hk ▸ hlen⟩
    have hd : (digitsOfSymbols s).length = digitsOf n := (length_digitsOfSymbols s).trans hk
    have hdigits := digits_groupValue (by rw [length_digitsOfSymbols]; omega) hrange
    rw [hd] at hdigits
    refine ⟨hn, hn7, hv, ?_⟩
    calc s = symbols (digitsOfSymbols s) := (symbols_digitsOfSymbols s hs).symm
      _ = tenc n (groupValue (digitsOfSymbols s)) := congrArg symbols hdigits.symm

/-- Settles O33: the two inequalities are those of the table of R151; the rest follows from the first, since the
magnitudes grow with the position. -/
theorem tailDigitCountsAreExact : Obligations.TailDigitCountsAreExact := by
  intro n hpos hn
  rw [← mag_eq_magAt, ← mag_eq_magAt]
  refine ⟨pow_le_mag_digitsOf hn, mag_pred_digitsOf_lt_pow hpos hn, fun v hv => ⟨fun i hi hi10 => ?_, ?_⟩⟩
  · have hmag : mag (digitsOf n) ≤ mag i := mag_mono hi (by omega)
    exact digit_eq_zero_of_lt_mag (hv.trans_le ((pow_le_mag_digitsOf hn).trans hmag))
  · exact groupValue_digits_digitsOf hpos hn hv

/-- Settles O34: the continuation adds digits 0 (`digitsOfSymbols_continuation`), so the full group has the sum of the
pending digits, which is below `MAG[k]`, hence below `57^k` and 2^64. -/
theorem flushByExtensionAgrees : Obligations.FlushByExtensionAgrees := by
  intro s hpos hlen _ hrange
  have hd : (digitsOfSymbols s).length = s.length := length_digitsOfSymbols s
  have hvalue : groupValue (digitsOfSymbols s) < 57 ^ s.length := by
    have hmag := groupValue_lt_mag (by omega) hrange
    rw [hd] at hmag
    exact hmag.trans_le (mag_le_pow (by omega))
  have hfits : groupValue (digitsOfSymbols s) < 2 ^ 64 :=
    calc groupValue (digitsOfSymbols s) < 57 ^ s.length := hvalue
      _ ≤ 57 ^ 10 := Nat.pow_le_pow_right (by omega) hlen
      _ < 2 ^ 64 := by norm_num
  refine ⟨?_, Nat.mod_eq_of_lt hvalue⟩
  rw [gdec_eq_value_iff _ _ (by simp; omega), digitsOfSymbols_continuation (List.ne_nil_of_length_pos hpos),
    groupValue_append_zeros]
  exact ⟨outOfRange_append_zeros (by omega) hrange, rfl, hfits⟩

end Sys2Proof.Machine

/-! ### The commands of the framer (43_framer.md R170 to R172, R174) -/

namespace Sys2Proof.Machine

open Sys2Proof

theorem exec_enct_of_ne_zero {n : BitVec 3} (h : n.toNat ≠ 0) (din : DataWord) (s : State) :
    exec (.enct n din) s = .next (emitGroup (tenc n.toNat (tailOperand n din)) s) := if_neg h

theorem exec_enct_of_eq_zero {n : BitVec 3} (h : n.toNat = 0) (din : DataWord) (s : State) :
    exec (.enct n din) s = .next (respondOk [] 0 s) := if_pos h

/-- R122, R125, R150: the encoder's symbols, in closed form. -/
theorem symbols_digits (x : Nat) {k : Nat} (hpos : 1 ≤ k) (h : k ≤ 11) : symbols (digits x k) = Spec.group k x := by
  have hlen : (digits x k).length = k := length_digits x k h
  refine List.ext_getElem (by simp [Spec.group, hlen]) fun i hi _ => ?_
  have hik : i < k := by rwa [length_symbols, hlen] at hi
  have hlow : (digits x k).take (i + 1) = (List.range (i + 1)).map (Spec.digit x) := by
    rw [(digitsArePositional x k hpos h).1, ← List.map_take, List.take_range, min_eq_left hik]
  rw [← List.getD_eq_getElem _ 0 hi, symbols_closed_form _ (digits_lt x k h) i (by omega), hlow]
  simp [Spec.group, Spec.symbol]

theorem digitsOf_bounds {n : Nat} (h : n < 8) : digitsOf n ≤ 10 ∧ (digitsOf n = 0 ↔ n = 0) := by
  interval_cases n <;> decide

theorem length_genc (x : Nat) : (genc x).length = 11 := (length_symbols _).trans (length_digits x 11 le_rfl)

theorem length_tenc {n : Nat} (h : n < 8) (v : Nat) : (tenc n v).length = digitsOf n :=
  (length_symbols _).trans (length_digits v _ ((digitsOf_bounds h).1.trans (by omega)))

/-- R172: the mask `8n` bits wide. -/
theorem tailOperand_eq (n : BitVec 3) (din : DataWord) : tailOperand n din = din.toNat % 2 ^ (8 * n.toNat) := by
  rw [tailOperand, show 256 = 2 ^ 8 by norm_num, ← pow_mul]

/-- R174, R173: the exact length from the count of symbols; without any, subtraction stops at 0 and there is no line
break. -/
theorem encodedLength_eq {x raw : Nat} (h : 11 * (x / 8) + digitsOf (x % 8) = raw) :
    encodedLength x = raw + (raw - 1) / 88 := by
  subst h
  unfold encodedLength
  dsimp only [groupSymbols, blockBytes, lineChars]
  split <;> omega

/-- R174: 65 bits hold the length of every text. -/
theorem encodedLength_lt {x : Nat} (h : x < 2 ^ 64) : encodedLength x < 2 ^ 65 := by
  have hdigits := (digitsOf_bounds (Nat.mod_lt x (by omega : 8 > 0))).1
  rw [encodedLength_eq rfl]
  omega

/-- R175, for a tail: at most 1.5 symbols a byte from 4 bytes on, and half a symbol above that for fewer. -/
theorem digitsOf_density {n : Nat} (h : n < 8) :
    2 * digitsOf n ≤ 3 * n + 1 ∧ (4 ≤ n → 2 * digitsOf n ≤ 3 * n) := by
  interval_cases n <;> decide

end Sys2Proof.Machine

namespace Sys2Proof.Machine

open Sys2Proof

/-- Settles O19. -/
theorem einitResult : Obligations.EinitResult := fun _ => rfl

/-- Settles O20: ENC8 emits one group (`emitGroup_eq`), the symbols of which are those of the closed form
(`symbols_digits`). -/
theorem enc8Result : Obligations.Enc8Result := by
  intro x s
  have hgroup : genc x.toNat = Spec.group 11 x.toNat := symbols_digits x.toNat (k := 11) (by omega) le_rfl
  rw [exec, execEnc8, hgroup, emitGroup_eq]
  rfl

/-- Settles O21: a tail of `n > 0` bytes is one group of `DIGITS[n]` symbols of the operand. -/
theorem enctResult : Obligations.EnctResult := by
  refine ⟨fun din s => exec_enct_of_eq_zero rfl din s, fun n din s hn => ?_⟩
  have hn0 : n.toNat ≠ 0 := fun h => hn (BitVec.eq_of_toNat_eq h)
  obtain ⟨hk, hk0⟩ := digitsOf_bounds n.isLt
  have hgroup : tenc n.toNat (tailOperand n din) = Spec.group (digitsOf n.toNat) (din.toNat % 2 ^ (8 * n.toNat)) := by
    rw [← tailOperand_eq]
    exact symbols_digits _ (by omega) (by omega)
  rw [exec_enct_of_ne_zero hn0, hgroup, emitGroup_eq]
  rfl

/-- Settles O22: the length fits the 65 bits of `val` (`encodedLength_lt`). -/
theorem enclenResult : Obligations.EnclenResult :=
  fun x _ => ⟨BitVec.ofNat 65 (encodedLength x.toNat), rfl,
    by rw [BitVec.toNat_ofNat, Nat.mod_eq_of_lt (encodedLength_lt x.isLt)]; rfl⟩

/-- Settles O23: each full block leaves 2 below the bound, which covers the half symbol that a tail of fewer than 4
bytes has too many and the line breaks. -/
theorem encodedLengthDensity : Obligations.EncodedLengthDensity := by
  intro n hn
  obtain ⟨htail, htail4⟩ := digitsOf_density (Nat.mod_lt n (by omega : 8 > 0))
  rw [encodedLength_eq rfl]
  omega

end Sys2Proof.Machine

/-! ### Texts cut into lines (43_framer.md R173; 30_encoding.md R81) -/

namespace Sys2Proof.Machine

open Sys2Proof

/-- The text of symbol values, the first of them at position `p` of its line: a line break comes before each symbol that
finds its line full. The framer puts out such a text, group by group (`issueAll_encode`). -/
def lineText : Nat → List Nat → List Byte
  | _, [] => []
  | p, v :: vs => if p = 88 then 0x0A :: symbolByte v :: lineText 1 vs else symbolByte v :: lineText (p + 1) vs

@[simp] theorem lineText_nil (p : Nat) : lineText p [] = [] := rfl

theorem lineText_cons_of_lt {p : Nat} (h : p < 88) (v : Nat) (vs : List Nat) :
    lineText p (v :: vs) = symbolByte v :: lineText (p + 1) vs := if_neg h.ne

/-- R173: the break belongs to the symbol after it, so none ends a text. -/
theorem lineText_full {vs : List Nat} (h : vs ≠ []) : lineText 88 vs = 0x0A :: lineText 0 vs := by
  cases vs with
  | nil => exact absurd rfl h
  | cons v vs => rfl

/-- Symbols that fit on the line follow each other without a break. -/
theorem lineText_append_of_le {p : Nat} (vs us : List Nat) (h : p + vs.length ≤ 88) :
    lineText p (vs ++ us) = symbolText vs ++ lineText (p + vs.length) us := by
  induction vs generalizing p with
  | nil => rfl
  | cons v vs ih =>
    rw [List.length_cons] at h
    rw [List.cons_append, lineText_cons_of_lt (by omega), ih (by omega), List.length_cons,
      show p + 1 + vs.length = p + (vs.length + 1) by omega]
    rfl

/-- R173, R174: one break for each full line of 88 symbols that a further symbol follows. -/
theorem length_lineText {p : Nat} (vs : List Nat) (hp : p ≤ 88) :
    (lineText p vs).length = vs.length + (p + vs.length - 1) / 88 := by
  induction vs generalizing p with
  | nil =>
    simp only [lineText_nil, List.length_nil]
    omega
  | cons v vs ih =>
    obtain rfl | hlt := hp.eq_or_lt
    · rw [lineText_full (List.cons_ne_nil v vs), lineText_cons_of_lt (by omega)]
      simp only [List.length_cons, ih (p := 0 + 1) (by omega)]
      omega
    · rw [lineText_cons_of_lt hlt]
      simp only [List.length_cons, ih (p := p + 1) (by omega)]
      omega

/-- R108(d): no symbol is the line break, which is a Delimiter. -/
theorem symbolByte_ne_lineBreak (v : Nat) : symbolByte v ≠ 0x0A := by
  by_cases hv : v < 57
  · intro h
    have hdigit : classify 0x0A = .digit v := h ▸ classify_symbolByte v hv
    have hdelim : classify 0x0A = .delimiter := by decide
    rw [hdelim] at hdigit
    cases hdigit
  · rw [symbolByte, List.getD_eq_default _ _ (not_lt.mp hv)]
    decide

/-- R173: with its break, a line is 89 bytes long, and the break is the last of them. -/
theorem lineText_break_iff {p : Nat} (vs : List Nat) (hp : p ≤ 88) (i : Nat) (hi : i < (lineText p vs).length) :
    (lineText p vs)[i]? = some 0x0A ↔ (p + i) % 89 = 88 := by
  induction vs generalizing p i with
  | nil => simp at hi
  | cons v vs ih =>
    have inLine (p : Nat) (hlt : p < 88) (i : Nat) (hi : i < (lineText p (v :: vs)).length) :
        (lineText p (v :: vs))[i]? = some 0x0A ↔ (p + i) % 89 = 88 := by
      rw [lineText_cons_of_lt hlt] at hi ⊢
      cases i with
      | zero =>
        simp only [List.getElem?_cons_zero, Option.some.injEq, symbolByte_ne_lineBreak, false_iff]
        omega
      | succ i =>
        rw [List.getElem?_cons_succ, ih (by omega) i (by simpa using hi), show p + 1 + i = p + (i + 1) by omega]
    obtain rfl | hlt := hp.eq_or_lt
    · rw [lineText_full (List.cons_ne_nil v vs)] at hi ⊢
      cases i with
      | zero => simp
      | succ i =>
        rw [List.getElem?_cons_succ, inLine 0 (by omega) i (by simpa using hi)]
        omega
    · exact inLine p hlt i hi

/-- R173: a text of symbols does not end with a line. -/
theorem eq_nil_of_length_lineText_mod {vs : List Nat} (h : (lineText 0 vs).length % 89 = 0) : vs = [] := by
  rw [length_lineText vs (by omega)] at h
  exact List.eq_nil_of_length_eq_zero (by omega)

end Sys2Proof.Machine

/-! ### The commands of ENCODE (43_framer.md R177) -/

namespace Sys2Proof.Machine

open Sys2Proof

theorem issue_of_exec {i : Instr} {s t : State} {r : Response} (h : exec i s = .next t) (hr : t.resp = some r) :
    issue i s = some (r, t) := by
  simp [issue, h, hr]

theorem issueAll_cons_of_exec {i : Instr} {s t : State} {r : Response} (h : exec i s = .next t)
    (hr : t.resp = some r) (rest : List Instr) :
    issueAll (i :: rest) s = (issueAll rest t).map fun z => (r.out ++ z.1, z.2) := by
  rw [issueAll, issue_of_exec h hr]
  rfl

/-- The groups on the line that the next group goes to: none when the line of `GCNT` is full (R171). -/
def groupsBefore (gcnt : BitVec 4) : Nat := if gcnt = 8#4 then 0 else gcnt.toNat

theorem groupsBefore_of_ne {g : BitVec 4} (h : g ≠ 8#4) : groupsBefore g = g.toNat := if_neg h

theorem groupsBefore_le {g : BitVec 4} (hg : g.toNat ≤ 8) : groupsBefore g ≤ 7 := by
  by_cases h : g = 8#4
  · simp [groupsBefore, h]
  · have hne : g.toNat ≠ 8 := fun h8 => h (BitVec.eq_of_toNat_eq h8)
    rw [groupsBefore_of_ne h]
    omega

/-- R29, R171: the groups on the line after one more. -/
theorem toNat_gcnt_emitGroup (vs : List Nat) {s : State} (hg : s.gcnt.toNat ≤ 8) :
    (emitGroup vs s).gcnt.toNat = groupsBefore s.gcnt + 1 := by
  rw [emitGroup_eq]
  by_cases h : s.gcnt = 8#4
  · simp [groupsBefore, h]
  · have hadd : (s.gcnt + 1).toNat = s.gcnt.toNat + 1 := by bv_omega
    simp only [h, if_false, groupsBefore_of_ne h, hadd]

/-- R171, R172: one group of a text; `GCNT` groups stand on the line before it, and the group fits on the line or finds
it full. -/
theorem lineText_group {g : BitVec 4} (hg : g.toNat ≤ 8) {vs : List Nat} (hpos : vs ≠ []) (hlen : vs.length ≤ 11)
    (us : List Nat) :
    lineText (11 * g.toNat) (vs ++ us) =
      ((if g = 8#4 then [0x0A#8] else []) ++ symbolText vs) ++
        lineText (11 * groupsBefore g + vs.length) us := by
  have hfits := groupsBefore_le hg
  by_cases h : g = 8#4
  · subst h
    have hfull : lineText (11 * (8#4).toNat) (vs ++ us) = 0x0A :: lineText 0 (vs ++ us) :=
      lineText_full (List.append_ne_nil_of_left_ne_nil hpos us)
    rw [hfull, lineText_append_of_le vs us (by omega)]
    rfl
  · rw [groupsBefore_of_ne h] at hfits ⊢
    rw [lineText_append_of_le vs us (by omega), if_neg h, List.nil_append]

theorem issueAll_cons_emitGroup {i : Instr} {vs : List Nat} {s : State} (h : exec i s = .next (emitGroup vs s))
    (rest : List Instr) :
    issueAll (i :: rest) s = (issueAll rest (emitGroup vs s)).map fun z =>
      (((if s.gcnt = 8#4 then [0x0A#8] else []) ++ symbolText vs) ++ z.1, z.2) :=
  issueAll_cons_of_exec h (by rw [emitGroup_eq]) rest

theorem issueAll_enct (n : BitVec 3) (din : DataWord) (s : State) (hg : s.gcnt.toNat ≤ 8) :
    ∃ t, issueAll [.enct n din] s = some (lineText (11 * s.gcnt.toNat) (tenc n.toNat (tailOperand n din)), t) := by
  by_cases hn : n.toNat = 0
  · refine ⟨respondOk [] 0 s, ?_⟩
    rw [issueAll_cons_of_exec (exec_enct_of_eq_zero hn din s) rfl, hn]
    rfl
  · obtain ⟨hk, hk0⟩ := digitsOf_bounds n.isLt
    have hlen := length_tenc n.isLt (tailOperand n din)
    have hne : tenc n.toNat (tailOperand n din) ≠ [] := List.ne_nil_of_length_pos (by omega)
    have hgroup := lineText_group hg hne (by omega) []
    rw [List.append_nil] at hgroup
    refine ⟨emitGroup (tenc n.toNat (tailOperand n din)) s, ?_⟩
    rw [issueAll_cons_emitGroup (exec_enct_of_ne_zero hn din s), hgroup]
    rfl

/-- R177: the outputs of the blocks and of the tail, joined, are the text of their symbols from the place on the line
that `GCNT` names. -/
theorem issueAll_encode (xs : List DataWord) (n : BitVec 3) (din : DataWord) (s : State) (hg : s.gcnt.toNat ≤ 8) :
    ∃ t, issueAll (xs.map .enc8 ++ [.enct n din]) s =
      some (lineText (11 * s.gcnt.toNat)
        (xs.flatMap (fun x => genc x.toNat) ++ tenc n.toNat (tailOperand n din)), t) := by
  induction xs generalizing s with
  | nil => exact issueAll_enct n din s hg
  | cons x xs ih =>
    have hgcnt := toNat_gcnt_emitGroup (genc x.toNat) hg
    have hlen := length_genc x.toNat
    obtain ⟨t, ht⟩ := ih (emitGroup (genc x.toNat) s) (hgcnt.trans_le (Nat.succ_le_succ (groupsBefore_le hg)))
    refine ⟨t, ?_⟩
    rw [List.map_cons, List.cons_append, issueAll_cons_emitGroup (i := .enc8 x) rfl, ht, List.flatMap_cons,
      List.append_assoc, lineText_group hg (List.ne_nil_of_length_pos (by omega)) hlen.le, hlen, hgcnt]
    rfl

/-- R52, R53: the integer of `N` bytes is below `256^N`. -/
theorem leNat_lt (q : List Byte) : leNat q < 256 ^ q.length := by
  induction q with
  | nil => simp [leNat]
  | cons b q ih =>
    have hb : b.toNat < 256 := b.isLt
    rw [leNat, List.length_cons, pow_succ]
    omega

/-- R53: a word holds the integer of up to 8 bytes. -/
theorem toNat_ofNat_leNat {q : List Byte} (h : q.length ≤ 8) : (BitVec.ofNat 64 (leNat q)).toNat = leNat q := by
  have hlt : leNat q < 2 ^ 64 :=
    calc leNat q < 256 ^ q.length := leNat_lt q
      _ ≤ 256 ^ 8 := Nat.pow_le_pow_right (by omega) h
      _ = 2 ^ 64 := by norm_num
  rw [BitVec.toNat_ofNat, Nat.mod_eq_of_lt hlt]

/-- The symbol values of the message `q`: a full group for each block of 8 bytes, then the group of the tail (R177). -/
def messageSymbols (q : List Byte) : List Nat :=
  (List.range (q.length / 8)).flatMap (fun j => genc (leNat ((q.drop (8 * j)).take 8))) ++
    tenc (q.length % 8) (leNat (q.drop (q.length - q.length % 8)))

/-- R178: the symbols of a message, counted as in R174. -/
theorem length_messageSymbols (q : List Byte) :
    (messageSymbols q).length = 11 * (q.length / 8) + digitsOf (q.length % 8) := by
  simp [messageSymbols, length_genc, length_tenc (Nat.mod_lt q.length (by omega : 8 > 0)),
    List.length_flatMap, Nat.mul_comm]

/-- R172, R177: ENCT of a tail takes all of the tail. -/
theorem tailOperand_leNat {q : List Byte} {n : Nat} (hn : n < 8) (hq : q.length = n) :
    tailOperand (BitVec.ofNat 3 n) (BitVec.ofNat 64 (leNat q)) = leNat q := by
  subst hq
  rw [tailOperand, toNat_ofNat_leNat hn.le, BitVec.toNat_ofNat, Nat.mod_eq_of_lt (b := 2 ^ 3) hn,
    Nat.mod_eq_of_lt (leNat_lt q)]

/-- R177: from every state, ENCODE puts out the symbols of the message, cut into lines. -/
theorem encodeMessage_eq (q : List Byte) (s : State) :
    ∃ t, encodeMessage q s = some (lineText 0 (messageSymbols q), t) := by
  have hr : q.length % 8 < 8 := Nat.mod_lt _ (by omega)
  have hn : (BitVec.ofNat 3 (q.length % 8)).toNat = q.length % 8 := by simp
  have htail : (q.drop (q.length - q.length % 8)).length = q.length % 8 := by rw [List.length_drop]; omega
  have hblock (j : Nat) : (BitVec.ofNat 64 (leNat ((q.drop (8 * j)).take 8))).toNat =
      leNat ((q.drop (8 * j)).take 8) := toNat_ofNat_leNat (List.length_take_le _ _)
  obtain ⟨t, ht⟩ := issueAll_encode
    ((List.range (q.length / 8)).map fun j => BitVec.ofNat 64 (leNat ((q.drop (8 * j)).take 8)))
    (BitVec.ofNat 3 (q.length % 8)) (BitVec.ofNat 64 (leNat (q.drop (q.length - q.length % 8))))
    (respondOk [] 0 (s.withGcnt 0)) (Nat.zero_le 8)
  rw [List.map_map, List.flatMap_map, hn, tailOperand_leNat hr htail] at ht
  simp only [hblock] at ht
  refine ⟨t, (issueAll_cons_of_exec (i := .einit) rfl rfl _).trans ?_⟩
  exact congrArg (Option.map fun z => (([] : List Byte) ++ z.1, z.2)) ht

end Sys2Proof.Machine

namespace Sys2Proof.Machine

open Sys2Proof

/-- Settles O24: the text is that of the message's symbols, cut into lines (`encodeMessage_eq`), and both lengths count
a break for each full line that goes on. -/
theorem encodedTextHasTheEncodedLength : Obligations.EncodedTextHasTheEncodedLength := by
  intro q s
  obtain ⟨t, ht⟩ := encodeMessage_eq q s
  refine ⟨_, t, ht, ?_⟩
  rw [length_lineText _ (by omega), encodedLength_eq (length_messageSymbols q).symm, Nat.zero_add]

/-- Settles O25: what holds of every text cut into lines (`lineText_break_iff`, `eq_nil_of_length_lineText_mod`); a
message without symbols is empty. -/
theorem lineBreaksEndTheFullLines : Obligations.LineBreaksEndTheFullLines := by
  intro q s
  obtain ⟨t, ht⟩ := encodeMessage_eq q s
  refine ⟨_, t, ht, fun i hi => ?_, fun hmod => ?_⟩
  · rw [lineText_break_iff _ (by omega) i hi, Nat.zero_add]
  · have hsymbols := length_messageSymbols q
    rw [eq_nil_of_length_lineText_mod hmod, List.length_nil] at hsymbols
    have hr : q.length % 8 < 8 := Nat.mod_lt _ (by omega)
    have htail := (digitsOf_bounds hr).2
    exact List.eq_nil_of_length_eq_zero (by omega)

end Sys2Proof.Machine

/-! ### The bytes that a text consumes (44_decoder.md R190, R192) -/

namespace Sys2Proof.Machine

open Sys2Proof

/-- R52, R53: a byte holds a number modulo 256, so the model's bytes are those of the spec. -/
theorem bytesLe_eq_bytesOut (n v : Nat) : bytesLe n v = Spec.bytesOut n v := by
  refine List.map_congr_left fun j _ => BitVec.eq_of_toNat_eq ?_
  simp

/-- R103, R106: the Delimiter bytes, by the ranges of `CLASS`. -/
theorem classify_eq_delimiter_iff (b : Byte) : classify b = .delimiter ↔ Spec.classByRanges b.toNat = 0x40 := by
  have key : ∀ b : Byte, classify b = .delimiter ↔ Spec.classByRanges b.toNat = 0x40 := by decide +kernel
  exact key b

/-- R79, R192: the two ways to present a Digit byte do the same. -/
theorem exec_of_digit {v : Nat} {i : Instr} (hv : v < 57)
    (hi : i = .decb (symbolByte v) ∨ digitInstrs[v]? = some i) (s : State) :
    exec i s = .next (acceptDigit v s) := by
  rcases hi with rfl | hi
  · exact exec_decb_of_digit (classify_symbolByte v hv) s
  · exact (exec_digitInstrs v i hi s).2

theorem genc_eq_group (x : Nat) : genc x = Spec.group 11 x := symbols_digits x (k := 11) (by omega) le_rfl

theorem tenc_eq_group {n : Nat} (hpos : 1 ≤ n) (hn : n ≤ 7) (v : Nat) : tenc n v = Spec.group (digitsOf n) v := by
  obtain ⟨hk, hk10⟩ := (digitsOf_partial_iff (by omega)).mpr ⟨hpos, hn⟩
  exact symbols_digits v hk (by omega)

/-- R129: where GDEC overflows, the symbols are the group of no 64-bit integer. -/
theorem gdec_eq_overflow_of_ne_genc {q : List Nat} (hlen : q.length = 11) (hq : ∀ u ∈ q, u < 57)
    (hne : ∀ x < 2 ^ 64, q ≠ genc x) : gdec q = .overflow := by
  cases h : gdec q with
  | overflow => rfl
  | value x =>
    obtain ⟨hx, hgroup⟩ := fullGroupRoundTrip.2 q x hlen hq h
    exact absurd hgroup (hne x hx)

end Sys2Proof.Machine

/-! ### The end of a stream (44_decoder.md R197, R198) -/

namespace Sys2Proof.Machine

open Sys2Proof Sys2Proof.Spec

theorem drain_of_cnt_eq_zero {s : State} (h : s.cnt = 0) : drain s = .next (decoderQuiet s) := by
  have hempty : s.withCnt 0 = s := by rw [← h]; rfl
  have hcnt : s.cnt.toNat = 0 := congrArg BitVec.toNat h
  rw [drain, if_pos hcnt, hempty]

variable {s t : State}

/-- R198: whatever comes out, the buffer is empty afterwards. -/
theorem cnt_eq_zero_of_drain (ht : drain s = .next t) : t.cnt = 0 := by
  rcases drain_cases s with ⟨-, hd⟩ | ⟨-, hd⟩ | ⟨-, -, ⟨-, hd⟩ | ⟨-, hd⟩ | ⟨_, _, -, hd⟩⟩ <;>
    rw [hd] at ht <;> cases ht <;> rfl

theorem drain_of_tdec_value {n v : Nat} (hpos : 0 < s.cnt.toNat) (hle : s.cnt.toNat ≤ 10)
    (h : tdec (pendingSymbols s) = .value n v) : drain s = .next (outputBytes n v (s.withCnt 0)) := by
  simp [drain, h, hpos.ne', hle.not_gt]

theorem drain_of_tdec_overflow (hpos : 0 < s.cnt.toNat) (hle : s.cnt.toNat ≤ 10)
    (h : tdec (pendingSymbols s) = .overflow) : drain s = .next (raise .overflow (s.withCnt 0)) := by
  simp [drain, h, hpos.ne', hle.not_gt]

theorem length_pendingSymbols (h : s.cnt.toNat ≤ 10) : (pendingSymbols s).length = s.cnt.toNat := by
  simp [pendingSymbols, h]

/-- R154: TDEC truncates by the count of symbols alone. -/
theorem tdec_ne_truncated {q : List Nat} {n : Nat} (h : bytesOf q.length = some n) : tdec q ≠ .truncated := by
  simp only [tdec, h]
  split
  · nofun
  split <;> nofun

/-- R156: where a tail of 1 to 7 bytes overflows, the symbols spell no tail. -/
theorem tdec_eq_overflow_of_ne_tenc {q : List Nat} {k : Nat} (hk : bytesOf q.length = some k) (hpos : 1 ≤ q.length)
    (hlen : q.length ≤ 10) (hq : ∀ u ∈ q, u < 57)
    (hne : ∀ n v, 1 ≤ n → n ≤ 7 → v < 256 ^ n → q ≠ tenc n v) : tdec q = .overflow := by
  cases h : tdec q with
  | overflow => rfl
  | truncated => exact absurd h (tdec_ne_truncated hk)
  | value n v =>
    obtain ⟨hn, hn7, hv, hgroup⟩ := tailRoundTrip.2 q n v hpos hlen hq h
    exact absurd hgroup (hne n v hn hn7 hv)

/-- R9: the counts of symbols that FLUSH decodes. -/
theorem exists_bytesOf_of_mem {k : Nat} (h : k ∈ [2, 3, 5, 6, 7, 9, 10]) :
    (∃ n, bytesOf k = some n) ∧ 1 ≤ k ∧ k ≤ 10 := by
  simp only [List.mem_cons, List.not_mem_nil, or_false] at h
  rcases h with rfl | rfl | rfl | rfl | rfl | rfl | rfl <;> exact ⟨⟨_, rfl⟩, by omega, by omega⟩

end Sys2Proof.Machine

/-! ### The bound on the decoded length (44_decoder.md R199) -/

namespace Sys2Proof.Machine

open Sys2Proof

/-- R199: `BYTES_UP[r]` is the most bytes whose digits fit in `r`. -/
theorem le_bytesUp_iff {n r : Nat} (hn : n ≤ 7) (hr : r < 11) : n ≤ bytesUp r ↔ digitsOf n ≤ r := by
  have key : ∀ n ≤ 7, ∀ r < 11, n ≤ bytesUp r ↔ digitsOf n ≤ r := by decide
  exact key n hn r hr

theorem bytesUp_le {r : Nat} (hr : r < 11) : bytesUp r ≤ 7 := by
  interval_cases r <;> decide

theorem digitsOf_bytesUp_le {r : Nat} (hr : r < 11) : digitsOf (bytesUp r) ≤ r :=
  (le_bytesUp_iff (bytesUp_le hr) hr).mp le_rfl

/-- R9: a tail has more symbols than bytes. -/
theorem lt_digitsOf {n : Nat} (hpos : 1 ≤ n) (hn : n ≤ 7) : n < digitsOf n := by
  interval_cases n <;> decide

/-- R199: the bytes of full groups and a tail are bounded by the length of their symbols, or of any longer text. -/
theorem le_decodedMaxLength {g n x : Nat} (hn : n ≤ 7) (h : 11 * g + digitsOf n ≤ x) :
    8 * g + n ≤ decodedMaxLength x := by
  have hr : x % 11 < 11 := Nat.mod_lt x (by omega)
  rw [decodedMaxLength, blockBytes, groupSymbols]
  by_cases hg : g = x / 11
  · have hn' : n ≤ bytesUp (x % 11) := (le_bytesUp_iff hn hr).mpr (by omega)
    omega
  · omega

theorem decodedMaxLength_mono {m n : Nat} (h : m ≤ n) : decodedMaxLength m ≤ decodedMaxLength n := by
  have hr : m % 11 < 11 := Nat.mod_lt m (by omega)
  have hdigits := digitsOf_bytesUp_le hr
  exact le_decodedMaxLength (g := m / 11) (n := bytesUp (m % 11)) (bytesUp_le hr) (by omega)

/-- R199: a text has more symbols than bytes. -/
theorem decodedMaxLength_lt {x : Nat} (h : 1 ≤ x) : decodedMaxLength x < x := by
  have hr : x % 11 < 11 := Nat.mod_lt x (by omega)
  have hdigits := digitsOf_bytesUp_le hr
  have htail : bytesUp (x % 11) = 0 ∨ bytesUp (x % 11) < digitsOf (bytesUp (x % 11)) :=
    (Nat.eq_zero_or_pos _).imp_right fun hpos => lt_digitsOf hpos (bytesUp_le hr)
  rw [decodedMaxLength, blockBytes, groupSymbols]
  omega

end Sys2Proof.Machine

namespace Sys2Proof.Machine

open Sys2Proof

/-- Settles O35. -/
theorem dinitResult : Obligations.DinitResult := fun _ => rfl

/-- Settles O37: both instructions skip the byte, DECB by its class (`classify_eq_delimiter_iff`). -/
theorem delimiterBytesAreSkipped : Obligations.DelimiterBytesAreSkipped := by
  intro b s hb i hi
  have hclass : classify b = .delimiter := (classify_eq_delimiter_iff b).mpr hb
  have hexec : exec i s = .next (skipDelimiter s) := by
    rcases List.mem_pair.mp hi with rfl | rfl
    · simp [exec, execDecb, hclass]
    · rfl
  rw [hexec, skipDelimiter_eq]

/-- Settles O38: `PEND` written at one index, which is below ten. -/
theorem digitBytesAreAppended : Obligations.DigitBytesAreAppended := by
  intro v i s hv hi hcnt
  refine ⟨s.pend.setIfInBounds s.cnt.toNat (BitVec.ofNat 6 v), ?_, fun j => ?_⟩
  · rw [exec_of_digit hv hi, acceptDigit_append v s hcnt, appendSymbol_eq]
  · have hv64 : v % 64 = v := Nat.mod_eq_of_lt (by omega)
    by_cases hj : j.val = s.cnt.toNat
    · simp [hj, hv64]
    · simp [hj, Ne.symm hj]

/-- Settles O39: GDEC of the eleven symbols gives the integer whose group they are, and overflows where there is none
(`fullGroupRoundTrip`). -/
theorem eleventhSymbolCompletesTheGroup : Obligations.EleventhSymbolCompletesTheGroup := by
  intro v i s hv hi hcnt hpend
  have hexec : exec i s = .next (completeGroup v s) := by
    rw [exec_of_digit hv hi, acceptDigit_complete v s (by simp [hcnt])]
  refine ⟨fun x hx hgroup => ?_, fun hne => ?_⟩
  · have hvalue : gdec (s.pend.toList.map BitVec.toNat ++ [v]) = .value x := by
      rw [hgroup, ← genc_eq_group]
      exact fullGroupRoundTrip.1 x hx
    rw [hexec, completeGroup_value v x s hvalue, bytesLe_eq_bytesOut]
  · have hsymbols : ∀ u ∈ s.pend.toList.map BitVec.toNat ++ [v], u < 57 := by
      have hpend' : ∀ w ∈ s.pend.toList, w.toNat < 57 :=
        List.forall_mem_iff_getElem.mpr fun j hj => by simpa using hpend ⟨j, by simpa using hj⟩
      simpa [or_imp, forall_and, hv] using hpend'
    have hoverflow := gdec_eq_overflow_of_ne_genc (by simp) hsymbols fun x hx => genc_eq_group x ▸ hne x hx
    rw [hexec, completeGroup_overflow v s hoverflow]

/-- Settles O40: every FLUSH that answers leaves the buffer empty (`cnt_eq_zero_of_drain`). -/
theorem flushOfTheEmptyBufferIsANoOp : Obligations.FlushOfTheEmptyBufferIsANoOp :=
  ⟨fun _ h => drain_of_cnt_eq_zero h, fun _ _ ht => drain_of_cnt_eq_zero (cnt_eq_zero_of_drain ht)⟩

/-- Settles O42: TDEC of the pending symbols gives the tail that they spell, and overflows where they spell none
(`tailRoundTrip`). -/
theorem flushDecodesTheTail : Obligations.FlushDecodesTheTail := by
  intro s hcnt hpend
  obtain ⟨⟨k, hk⟩, hpos, hle⟩ := exists_bytesOf_of_mem hcnt
  have hlen : (pendingSymbols s).length = s.cnt.toNat := length_pendingSymbols hle
  refine ⟨fun n v hn hn7 hv hgroup => ?_, fun hne => ?_⟩
  · have hvalue : tdec (pendingSymbols s) = .value n v := by
      rw [hgroup, ← tenc_eq_group hn hn7]
      exact tailRoundTrip.1 n v hn hn7 hv
    rw [exec, execFlush, drain_of_tdec_value hpos hle hvalue, outputBytes_eq, bytesLe_eq_bytesOut]
    rfl
  · have hoverflow : tdec (pendingSymbols s) = .overflow := by
      rw [← hlen] at hk hpos hle
      exact tdec_eq_overflow_of_ne_tenc hk hpos hle hpend fun n v hn hn7 hv =>
        tenc_eq_group hn hn7 v ▸ hne n v hn hn7 hv
    rw [exec, execFlush, drain_of_tdec_overflow hpos hle hoverflow]
    rfl

/-- Settles O43: the tail of the bound is `BYTES_UP` (`le_bytesUp_iff`), and 65 bits hold the bound. -/
theorem decmaxResult : Obligations.DecmaxResult := by
  intro x s
  have hr : x.toNat % 11 < 11 := Nat.mod_lt _ (by omega)
  have hx : x.toNat < 2 ^ 64 := x.isLt
  have hval : (BitVec.ofNat 65 (decodedMaxLength x.toNat)).toNat = decodedMaxLength x.toNat := by
    have hbytes := bytesUp_le hr
    rw [BitVec.toNat_ofNat, Nat.mod_eq_of_lt]
    rw [decodedMaxLength, blockBytes, groupSymbols]
    omega
  exact ⟨BitVec.ofNat 65 (decodedMaxLength x.toNat), bytesUp (x.toNat % 11), rfl, hval, bytesUp_le hr,
    digitsOf_bytesUp_le hr, fun m hm hfits => (le_bytesUp_iff hm hr).mpr hfits,
    fun hpos => hval.trans_lt (decodedMaxLength_lt hpos)⟩

end Sys2Proof.Machine

/-! ### Texts, byte by byte (44_decoder.md R192, R200)

DECPART consumes the bytes of a text until one stops it. `PartRun` says so as a relation, so that a property of texts
is proved by induction on the bytes that were taken. -/

namespace Sys2Proof.Machine

open Sys2Proof Sys2Proof.Spec

/-- DECB of a byte of the class `c` consumes it and answers OK with the output `out`. -/
inductive Consumes (s : State) : ByteClass → List Byte → State → Prop where
  | delimiter : Consumes s .delimiter [] (skipDelimiter s)
  | append (v : Nat) (hcnt : s.cnt.toNat ≤ 9) : Consumes s (.digit v) [] (appendSymbol v s)
  | complete (v x : Nat) (hcnt : 9 < s.cnt.toNat)
    (hvalue : gdec (s.pend.toList.map BitVec.toNat ++ [v]) = .value x) :
    Consumes s (.digit v) (bytesLe 8 x) (completeGroup v s)

/-- DECB of a byte of the class `c` ends a DECPART, which answers `p` if this byte is its first. -/
inductive Stops (s : State) : ByteClass → PartResult → State → Prop where
  | control : Stops s .control ⟨.control, 0, []⟩ (raise .control s)
  | invalid : Stops s .invalid ⟨.invalid, 0, []⟩ (raise .invalid s)
  | overflow (v : Nat) (hcnt : 9 < s.cnt.toNat)
    (hoverflow : gdec (s.pend.toList.map BitVec.toNat ++ [v]) = .overflow) :
    Stops s (.digit v) ⟨.overflow, 1, []⟩ (completeGroup v s)

/-- The result of two parts of a text, the first of which did not stop. -/
def PartResult.andThen (p p' : PartResult) : PartResult := ⟨p'.reason, p.consumed + p'.consumed, p.data ++ p'.data⟩

/-- The result of a byte that is consumed. -/
def PartResult.one (out : List Byte) : PartResult := ⟨.ok, 1, out⟩

/-- A DECPART of the text `q` from `s` answers `p` and leaves `t`. -/
inductive PartRun : List Byte → State → PartResult → State → Prop where
  | nil (s : State) : PartRun [] s ⟨.ok, 0, []⟩ s
  | stop {b : Byte} {q : List Byte} {s t : State} {p : PartResult} (hstop : Stops s (classify b) p t) :
    PartRun (b :: q) s p t
  | consume {b : Byte} {q : List Byte} {s t u : State} {out : List Byte} {p : PartResult}
    (hstep : Consumes s (classify b) out t) (hrest : PartRun q t p u) :
    PartRun (b :: q) s ((PartResult.one out).andThen p) u

variable {b : Byte} {c : ByteClass} {q : List Byte} {s t u : State} {out : List Byte} {p : PartResult}

/-- R192: DECB takes every byte one way or the other. -/
theorem consumes_or_stops (s : State) (c : ByteClass) : (∃ out t, Consumes s c out t) ∨ ∃ p t, Stops s c p t := by
  cases c with
  | delimiter => exact .inl ⟨_, _, .delimiter⟩
  | control => exact .inr ⟨_, _, .control⟩
  | invalid => exact .inr ⟨_, _, .invalid⟩
  | digit v =>
    by_cases hcnt : s.cnt.toNat ≤ 9
    · exact .inl ⟨_, _, .append v hcnt⟩
    · cases hgroup : gdec (s.pend.toList.map BitVec.toNat ++ [v]) with
      | value x => exact .inl ⟨_, _, .complete v x (by omega) hgroup⟩
      | overflow => exact .inr ⟨_, _, .overflow v (by omega) hgroup⟩

theorem Stops.reason_ne_ok (h : Stops s c p t) : p.reason ≠ .ok := by cases h <;> nofun

theorem Stops.consumed_le_one (h : Stops s c p t) : p.consumed ≤ 1 := by cases h <;> simp

theorem Stops.ne_delimiter (h : Stops s c p t) : c ≠ .delimiter := by cases h <;> nofun

theorem exists_partRun (q : List Byte) (s : State) : ∃ p t, PartRun q s p t := by
  induction q generalizing s with
  | nil => exact ⟨_, _, .nil s⟩
  | cons b q ih =>
    rcases consumes_or_stops s (classify b) with ⟨out, t, hstep⟩ | ⟨p, t, hstop⟩
    · obtain ⟨p, u, hrest⟩ := ih t
      exact ⟨_, _, .consume hstep hrest⟩
    · exact ⟨_, _, .stop hstop⟩

theorem Consumes.issue_decb (h : Consumes s (classify b) out t) :
    issue (.decb b) s = some (⟨.ok, true, out, 0⟩, t) := by
  generalize hc : classify b = c at h
  cases h with
  | delimiter => simp [issue, exec, execDecb, hc, skipDelimiter_eq]
  | append v hcnt => simp [issue, exec_decb_of_digit hc, acceptDigit_append v s hcnt, appendSymbol_eq]
  | complete v x hcnt hvalue =>
    simp [issue, exec_decb_of_digit hc, acceptDigit_complete v s hcnt, completeGroup_value v x s hvalue]

theorem decodePart_cons_of_consumes (h : Consumes s (classify b) out t) (q : List Byte) :
    decodePart (b :: q) s = (decodePart q t).map fun z => ((PartResult.one out).andThen z.1, z.2) := by
  simp [decodePart, h.issue_decb, PartResult.andThen, PartResult.one, Nat.add_comm]

theorem decodePart_cons_of_stops (h : Stops s (classify b) p t) (q : List Byte) :
    decodePart (b :: q) s = some (p, t) := by
  generalize hc : classify b = c at h
  cases h with
  | control | invalid => simp [decodePart, issue, exec, execDecb, hc, raise_eq, exceptionAcc, exceptionStatus]
  | overflow v hcnt hoverflow =>
    simp [decodePart, issue, exec_decb_of_digit hc, acceptDigit_complete v s hcnt,
      completeGroup_overflow v s hoverflow]

theorem PartRun.decodePart_eq (h : PartRun q s p t) : decodePart q s = some (p, t) := by
  induction h with
  | nil => rfl
  | stop hstop => exact decodePart_cons_of_stops hstop _
  | consume hstep _ ih => rw [decodePart_cons_of_consumes hstep, ih]; rfl

theorem PartRun.unique {p' : PartResult} {t' : State} (h : PartRun q s p t) (h' : PartRun q s p' t') :
    p = p' ∧ t = t' := by
  simpa [h.decodePart_eq] using h'.decodePart_eq

theorem decodePart_eq_some_iff : decodePart q s = some (p, t) ↔ PartRun q s p t := by
  refine ⟨fun h => ?_, PartRun.decodePart_eq⟩
  obtain ⟨p', t', hrun⟩ := exists_partRun q s
  obtain ⟨rfl, rfl⟩ : p' = p ∧ t' = t := by simpa [hrun.decodePart_eq] using h
  exact hrun

/-- R203: a text that goes on after a part that did not stop. -/
theorem PartRun.decodePart_append (h : PartRun q s p t) (hp : p.reason = .ok) (q' : List Byte) :
    decodePart (q ++ q') s = (decodePart q' t).map fun z => (p.andThen z.1, z.2) := by
  induction h with
  | nil => simp [PartResult.andThen]
  | stop hstop => exact absurd hp hstop.reason_ne_ok
  | consume hstep _ ih =>
    rw [List.cons_append, decodePart_cons_of_consumes hstep, ih hp]
    simp [PartResult.andThen, Function.comp_def, Nat.add_assoc]

theorem PartRun.append {q' : List Byte} {p' : PartResult} (h : PartRun q s p t) (hp : p.reason = .ok)
    (h' : PartRun q' t p' u) : PartRun (q ++ q') s (p.andThen p') u := by
  rw [← decodePart_eq_some_iff, h.decodePart_append hp, h'.decodePart_eq]
  rfl

theorem PartRun.consumed_le (h : PartRun q s p t) : p.consumed ≤ q.length := by
  induction h with
  | nil => exact le_rfl
  | stop hstop => exact hstop.consumed_le_one.trans (Nat.succ_le_succ (Nat.zero_le _))
  | consume _ _ ih => simp only [PartResult.andThen, PartResult.one, List.length_cons]; omega

theorem PartRun.consumed_eq (h : PartRun q s p t) (hp : p.reason = .ok) : p.consumed = q.length := by
  induction h with
  | nil => rfl
  | stop hstop => exact absurd hp hstop.reason_ne_ok
  | consume _ _ ih =>
    have hrest := ih hp
    simp only [PartResult.andThen, PartResult.one, List.length_cons]
    omega

end Sys2Proof.Machine

/-! ### The counters of a text (10_state.md R25 to R27; 44_decoder.md R199, R201) -/

namespace Sys2Proof.Machine

open Sys2Proof Sys2Proof.Spec

/-- What the registers of `t` say of a part of a text that was decoded from `s` with the result `p`. -/
structure Accounts (s : State) (p : PartResult) (t : State) : Prop where
  consumed : t.consumed = s.consumed + BitVec.ofNat 64 p.consumed
  produced : t.produced = s.produced + BitVec.ofNat 64 p.data.length
  err : t.err = s.err ||| flagOfStatus p.reason
  reason : p.reason ≠ .illegal
  cnt : s.cnt.toNat ≤ 10 → t.cnt.toNat ≤ 10
  /-- Each 8 bytes of data took eleven of the bytes consumed or of the symbols that waited. -/
  groups : ∃ g, p.data.length = 8 * g ∧ 11 * g + t.cnt.toNat ≤ s.cnt.toNat + p.consumed

variable {c : ByteClass} {q : List Byte} {s t u : State} {out : List Byte} {p : PartResult}

theorem accounts_refl (s : State) : Accounts s ⟨.ok, 0, []⟩ s where
  consumed := by simp
  produced := by simp
  err := by simp [flagOfStatus]
  reason := nofun
  cnt := id
  groups := ⟨0, rfl, by simp⟩

theorem Accounts.trans {p' : PartResult} (h : Accounts s p t) (hp : p.reason = .ok) (h' : Accounts t p' u) :
    Accounts s (p.andThen p') u where
  consumed := by rw [h'.consumed, h.consumed, PartResult.andThen, BitVec.ofNat_add, BitVec.add_assoc]
  produced := by
    rw [h'.produced, h.produced, PartResult.andThen, List.length_append, BitVec.ofNat_add, BitVec.add_assoc]
  err := by
    have hok : t.err = s.err := by rw [h.err, hp]; exact BitVec.or_zero
    rw [h'.err, hok, PartResult.andThen]
  reason := h'.reason
  cnt hs := h'.cnt (h.cnt hs)
  groups := by
    obtain ⟨g, hg, hle⟩ := h.groups
    obtain ⟨g', hg', hle'⟩ := h'.groups
    refine ⟨g + g', ?_, ?_⟩
    · simp only [PartResult.andThen, List.length_append]
      omega
    · simp only [PartResult.andThen]
      omega

theorem Consumes.accounts (h : Consumes s c out t) : Accounts s (.one out) t := by
  cases h with
  | delimiter =>
    exact {
      consumed := rfl
      produced := (BitVec.add_zero _).symm
      err := BitVec.or_zero.symm
      reason := nofun
      cnt := id
      groups := ⟨0, rfl, (Nat.zero_add _).trans_le (Nat.le_succ _)⟩ }
  | append v hcnt =>
    have hadd : (appendSymbol v s).cnt.toNat = s.cnt.toNat + 1 := toNat_cnt_add_one s hcnt
    exact {
      consumed := rfl
      produced := (BitVec.add_zero _).symm
      err := BitVec.or_zero.symm
      reason := nofun
      cnt := fun _ => by omega
      groups := ⟨0, rfl, (Nat.zero_add _).trans_le hadd.le⟩ }
  | complete v x hcnt hvalue =>
    rw [completeGroup_value v x s hvalue]
    exact {
      consumed := rfl
      produced := by simp [PartResult.one]
      err := BitVec.or_zero.symm
      reason := nofun
      cnt := fun _ => Nat.zero_le 10
      groups := ⟨1, by simp [PartResult.one], Nat.succ_le_succ hcnt⟩ }

theorem Stops.accounts (h : Stops s c p t) : Accounts s p t := by
  cases h with
  | control | invalid =>
    exact {
      consumed := (BitVec.add_zero _).symm
      produced := (BitVec.add_zero _).symm
      err := rfl
      reason := nofun
      cnt := id
      groups := ⟨0, rfl, (Nat.zero_add _).le⟩ }
  | overflow v hcnt hoverflow =>
    rw [completeGroup_overflow v s hoverflow]
    exact {
      consumed := rfl
      produced := (BitVec.add_zero _).symm
      err := rfl
      reason := nofun
      cnt := fun _ => Nat.zero_le 10
      groups := ⟨0, rfl, Nat.zero_le _⟩ }

theorem PartRun.accounts (h : PartRun q s p t) : Accounts s p t := by
  induction h with
  | nil s => exact accounts_refl s
  | stop hstop => exact hstop.accounts
  | consume hstep _ ih => exact hstep.accounts.trans rfl ih

/-- What the registers of `t` say of a stream that ended in `s` with the response `r`. -/
structure Flushed (s : State) (r : Response) (t : State) : Prop where
  cnt : t.cnt = 0
  consumed : t.consumed = s.consumed
  produced : t.produced = s.produced + BitVec.ofNat 64 r.out.length
  err : t.err = s.err ||| flagOfStatus r.st
  reason : r.st ≠ .illegal
  /-- The tail has at most 7 bytes, and as many digits as there were symbols pending. -/
  tail : r.out.length ≤ 7 ∧ digitsOf r.out.length ≤ s.cnt.toNat

/-- R197: with at most ten symbols pending, FLUSH answers. -/
theorem exists_flush (h : s.cnt.toNat ≤ 10) : ∃ r t, issue .flush s = some (r, t) ∧ Flushed s r t := by
  have hissue {r : Response} {t : State} (hd : drain s = .next t) (hr : t.resp = some r) :
      issue .flush s = some (r, t) := issue_of_exec hd hr
  have noTail : ([] : List Byte).length ≤ 7 ∧ digitsOf ([] : List Byte).length ≤ s.cnt.toNat :=
    ⟨Nat.zero_le 7, Nat.zero_le _⟩
  rcases drain_cases s with ⟨-, hd⟩ | ⟨hlt, -⟩ | ⟨-, hle, ⟨-, hd⟩ | ⟨-, hd⟩ | ⟨n, v, hvalue, hd⟩⟩
  · exact ⟨_, _, hissue hd rfl, rfl, rfl, by simp, by simp [flagOfStatus], nofun, noTail⟩
  · omega
  · exact ⟨_, _, hissue hd rfl, rfl, rfl, by simp, rfl, nofun, noTail⟩
  · exact ⟨_, _, hissue hd rfl, rfl, rfl, by simp, rfl, nofun, noTail⟩
  · obtain ⟨hbytes, -⟩ := (tdec_eq_value_iff _ n v).mp hvalue
    obtain ⟨hn8, hk⟩ := eq_digitsOf_of_bytesOf _ _ hbytes
    rw [length_pendingSymbols h] at hk
    have hn7 : n ≤ 7 := by
      by_contra hn
      obtain rfl : n = 8 := by omega
      exact absurd (hk.symm.trans_le h) (by decide)
    exact ⟨_, _, hissue hd rfl, rfl, rfl, by simp, by simp [flagOfStatus], nofun, by simp [hn7, hk]⟩

/-- The state in which DECODE takes the first byte of a text (R191, R201). -/
def afterDinit (s : State) : State := respondOk [] 0 (startStream s)

theorem decodeMessage_of_stopped (h : PartRun q (afterDinit s) p t) (hp : p.reason ≠ .ok) :
    decodeMessage q s = some (⟨p.data.length, p.consumed, p.reason, p.data⟩, t) := by
  have hpart : decodePart q (respondOk [] 0 (startStream s)) = some (p, t) := h.decodePart_eq
  rw [decodeMessage, issue_of_exec (i := .dinit) rfl rfl, Option.bind_some, hpart, Option.bind_some, if_pos hp]

theorem decodeMessage_of_flushed {r : Response} (h : PartRun q (afterDinit s) p t) (hp : p.reason = .ok)
    (hr : issue .flush t = some (r, u)) :
    decodeMessage q s = some (⟨p.data.length + r.out.length, q.length, r.st, p.data ++ r.out⟩, u) := by
  have hpart : decodePart q (respondOk [] 0 (startStream s)) = some (p, t) := h.decodePart_eq
  rw [decodeMessage, issue_of_exec (i := .dinit) rfl rfl, Option.bind_some, hpart, Option.bind_some,
    if_neg (not_not.mpr hp), hr, Option.map_some]

/-- What DECODE of `q` answers, and what the registers say of it. -/
structure Decoded (q : List Byte) (s : State) (r : DecodeResult) (t : State) : Prop where
  answer : decodeMessage q s = some (r, t)
  written : r.written = r.data.length
  le : r.consumed ≤ q.length
  consumed : t.consumed = BitVec.ofNat 64 r.consumed
  produced : t.produced = BitVec.ofNat 64 r.written
  ok : r.reason = .ok → r.consumed = q.length ∧ t.cnt = 0
  reason : r.reason ≠ .illegal
  err : t.err = (s.err &&& 0b10000) ||| flagOfStatus r.reason
  bounded : r.written ≤ decodedMaxLength q.length

/-- R201: a stream starts with an empty buffer and its counters at 0. -/
theorem exists_decoded (q : List Byte) (s : State) : ∃ r t, Decoded q s r t := by
  obtain ⟨p, t, hrun⟩ := exists_partRun q (afterDinit s)
  have hpart := hrun.accounts
  have hle := hrun.consumed_le
  have hconsumed : t.consumed = BitVec.ofNat 64 p.consumed := hpart.consumed.trans (BitVec.zero_add _)
  have hproduced : t.produced = BitVec.ofNat 64 p.data.length := hpart.produced.trans (BitVec.zero_add _)
  have hcnt0 : (afterDinit s).cnt.toNat = 0 := rfl
  obtain ⟨g, hg, hgroups⟩ := hpart.groups
  by_cases hp : p.reason = .ok
  · obtain ⟨r, u, hanswer, hflush⟩ := exists_flush (hpart.cnt (Nat.zero_le 10))
    obtain ⟨hr7, hdigits⟩ := hflush.tail
    have herr : t.err = (afterDinit s).err := by rw [hpart.err, hp]; exact BitVec.or_zero
    refine ⟨_, u, decodeMessage_of_flushed hrun hp hanswer, ?_, le_rfl, ?_, ?_, fun _ => ⟨rfl, hflush.cnt⟩,
      hflush.reason, ?_, ?_⟩
    · simp
    · rw [hflush.consumed, hconsumed, hrun.consumed_eq hp]
    · rw [hflush.produced, hproduced, BitVec.ofNat_add]
    · rw [hflush.err, herr]; rfl
    · rw [hg]
      exact le_decodedMaxLength hr7 (by omega)
  · refine ⟨_, t, decodeMessage_of_stopped hrun hp, rfl, hle, hconsumed, hproduced, fun h => absurd h hp,
      hpart.reason, hpart.err, ?_⟩
    have hdigits0 : digitsOf 0 = 0 := rfl
    rw [hg]
    exact le_decodedMaxLength (n := 0) (Nat.zero_le 7) (by omega)

/-- R27, R191: of the flags `ERR[3:0]`, DINIT leaves none. -/
theorem extractLsb'_cleared_or (err f : BitVec 5) :
    ((err &&& 0b10000) ||| f).extractLsb' 0 4 = f.extractLsb' 0 4 := by
  revert err f
  decide

/-- R27: each decoder reason has its flag in `ERR[3:0]`. -/
theorem extractLsb'_flagOfStatus_eq_zero_iff {st : Status} (hst : st ≠ .illegal) :
    (flagOfStatus st).extractLsb' 0 4 = 0#4 ↔ st = .ok := by
  cases st with
  | illegal => exact absurd rfl hst
  | _ => decide

/-- R27: after the start of a stream, no flag in `ERR[3:0]` but that of the reason. -/
theorem noFailure_iff {err : BitVec 5} {st : Status} (hst : st ≠ .illegal)
    (h : t.err = (err &&& 0b10000) ||| flagOfStatus st) : t.noFailure = true ↔ st = .ok := by
  rw [State.noFailure, beq_iff_eq, h, extractLsb'_cleared_or, extractLsb'_flagOfStatus_eq_zero_iff hst]

end Sys2Proof.Machine

/-! ### Delimiters in a text (44_decoder.md R204) -/

namespace Sys2Proof.Machine

open Sys2Proof Sys2Proof.Spec

/-- `s` with what a Delimiter may write: another `CONSUMED`, `LAST` and response. -/
def State.recounted (s : State) (n : BitVec 64) (l : BitVec 3) (r : Option Response) : State :=
  ((s.withConsumed n).withLast l).withResp r

variable {b : Byte} {c : ByteClass} {q : List Byte} {s t u : State} {out : List Byte} {p : PartResult}

/-- DECB takes a byte the same way whatever the fields that a Delimiter writes. -/
theorem Consumes.recounted (h : Consumes s c out t) (n : BitVec 64) (l : BitVec 3) (r : Option Response) :
    ∃ n' l' r', Consumes (s.recounted n l r) c out (t.recounted n' l' r') := by
  cases h with
  | delimiter => exact ⟨n + 1, 0, _, .delimiter⟩
  | append v hcnt => exact ⟨n + 1, 0, _, .append (s := s.recounted n l r) v hcnt⟩
  | complete v x hcnt hvalue =>
    have hstep := Consumes.complete (s := s.recounted n l r) v x hcnt hvalue
    rw [completeGroup_value v x (s.recounted n l r) hvalue] at hstep
    rw [completeGroup_value v x s hvalue]
    exact ⟨n + 1, 0, _, hstep⟩

theorem Stops.recounted (h : Stops s c p t) (n : BitVec 64) (l : BitVec 3) (r : Option Response) :
    ∃ n' l' r', Stops (s.recounted n l r) c p (t.recounted n' l' r') := by
  cases h with
  | control => exact ⟨n, 1, _, .control⟩
  | invalid => exact ⟨n, 2, _, .invalid⟩
  | overflow v hcnt hoverflow =>
    have hstop := Stops.overflow (s := s.recounted n l r) v hcnt hoverflow
    rw [completeGroup_overflow v (s.recounted n l r) hoverflow] at hstop
    rw [completeGroup_overflow v s hoverflow]
    exact ⟨n + 1, 3, _, hstop⟩

theorem Consumes.of_delimiter (h : Consumes s c out t) (hc : c = .delimiter) : out = [] ∧ skipDelimiter s = t := by
  cases h with
  | delimiter => exact ⟨rfl, rfl⟩
  | append | complete => cases hc

theorem isDelimiter_iff (b : Byte) : isDelimiter b = true ↔ classify b = .delimiter := by
  rw [classify_eq_delimiter_iff, isDelimiter, beq_iff_eq]

/-- R204: the text without its delimiters runs alike, but for what a Delimiter writes. -/
theorem PartRun.withoutDelimiters (h : PartRun q s p t) (n : BitVec 64) (l : BitVec 3) (r : Option Response) :
    ∃ m n' l' r', PartRun (q.filter fun b => !isDelimiter b) (s.recounted n l r) { p with consumed := m }
        (t.recounted n' l' r') ∧
      p.consumed = m + ((q.take p.consumed).filter isDelimiter).length := by
  induction h generalizing n l r with
  | nil s => exact ⟨0, n, l, r, .nil _, rfl⟩
  | @stop b q s t p hstop =>
    obtain ⟨n', l', r', hstop'⟩ := hstop.recounted n l r
    have hb : isDelimiter b = false := by
      rw [← Bool.not_eq_true, isDelimiter_iff]
      exact hstop.ne_delimiter
    have htaken : ((b :: q).take p.consumed).filter isDelimiter = [] := by
      obtain h0 | h1 := Nat.le_one_iff_eq_zero_or_eq_one.mp hstop.consumed_le_one
      · simp [h0]
      · simp [h1, hb]
    refine ⟨p.consumed, n', l', r', ?_, by simp [htaken]⟩
    rw [List.filter_cons_of_pos (by simp [hb])]
    exact .stop hstop'
  | @consume b q s t u out p hstep hrest ih =>
    have htake : (b :: q).take ((PartResult.one out).andThen p).consumed = b :: q.take p.consumed := by
      simp [PartResult.andThen, PartResult.one, Nat.add_comm 1]
    rw [htake]
    cases hb : isDelimiter b with
    | true =>
      obtain ⟨rfl, rfl⟩ := hstep.of_delimiter ((isDelimiter_iff b).mp hb)
      obtain ⟨m, n', l', r', hrun, hm⟩ := ih n l r
      refine ⟨m, n', l', r', ?_, ?_⟩
      · rw [List.filter_cons_of_neg (by simp [hb])]
        exact hrun
      · simp only [PartResult.andThen, PartResult.one, List.filter_cons_of_pos hb, List.length_cons]
        omega
    | false =>
      obtain ⟨n₁, l₁, r₁, hstep'⟩ := hstep.recounted n l r
      obtain ⟨m, n', l', r', hrun, hm⟩ := ih n₁ l₁ r₁
      refine ⟨1 + m, n', l', r', ?_, ?_⟩
      · rw [List.filter_cons_of_pos (by simp [hb])]
        exact .consume hstep' hrun
      · simp only [PartResult.andThen, PartResult.one]
        rw [List.filter_cons_of_neg (by simp [hb])]
        omega

end Sys2Proof.Machine

namespace Sys2Proof.Machine

open Sys2Proof

/-- Settles O44: the data are full groups and a tail, of no more symbols than the text has bytes (`exists_decoded`). -/
theorem decodedLengthIsBounded : Obligations.DecodedLengthIsBounded := by
  refine ⟨fun q s t r hr => ?_, fun m n => decodedMaxLength_mono⟩
  obtain ⟨r', t', hdecoded⟩ := exists_decoded q s
  obtain ⟨rfl, rfl⟩ : r' = r ∧ t' = t := by simpa [hdecoded.answer] using hr
  exact hdecoded.bounded

/-- Settles O46, by induction on the bytes of the first fragment (`PartRun.decodePart_append`). -/
theorem fragmentsDecodeAsTheWhole : Obligations.FragmentsDecodeAsTheWhole :=
  fun _ q2 _ _ _ h hp => (decodePart_eq_some_iff.mp h).decodePart_append hp q2

/-- Settles O47, by induction on the bytes taken (`PartRun.withoutDelimiters`). -/
theorem delimitersChangeTheConsumedCountOnly : Obligations.DelimitersChangeTheConsumedCountOnly := by
  intro q s t p h
  obtain ⟨m, n', l', r', hrun, hm⟩ := (decodePart_eq_some_iff.mp h).withoutDelimiters s.consumed s.last s.resp
  exact ⟨_, _, hrun.decodePart_eq, rfl, rfl, hm, rfl, rfl, rfl, rfl, rfl⟩

/-- Settles O48: the part before the byte goes on (`PartRun.decodePart_append`), and the byte stops it. -/
theorem decodingStopsAtTheFirstBadByte : Obligations.DecodingStopsAtTheFirstBadByte := by
  intro q1 q2 b s t p h hp
  have hrun := decodePart_eq_some_iff.mp h
  have stopsAt {st : Status} {u : State} (hstop : Stops t (classify b) ⟨st, 0, []⟩ u) :
      decodePart (q1 ++ b :: q2) s = some (⟨st, q1.length, p.data⟩, u) := by
    rw [hrun.decodePart_append hp, decodePart_cons_of_stops hstop, ← hrun.consumed_eq hp]
    simp [PartResult.andThen]
  refine ⟨fun hb => ?_, fun hb => ?_⟩
  · have hclass : classify b = .control := (classify_eq_control_iff b).mpr hb
    exact stopsAt (hclass ▸ Stops.control)
  · have hclass : classify b = .invalid := (classify_eq_invalid_iff b).mpr hb
    exact stopsAt (hclass ▸ Stops.invalid)

/-- Settles O49: a stream starts with its counters at 0 and ends with the counts of its parts (`exists_decoded`); the
flag of the reason is the only one set (`noFailure_iff`). -/
theorem decodeReportsTheCounters : Obligations.DecodeReportsTheCounters := by
  intro q s
  obtain ⟨r, t, h⟩ := exists_decoded q s
  exact ⟨r, t, h.answer, h.written, h.le, h.consumed, h.produced, h.ok, h.reason, (noFailure_iff h.reason h.err).symm⟩

end Sys2Proof.Machine

/-! ### Decoding the text of a message (44_decoder.md R202) -/

namespace Sys2Proof.Machine

open Sys2Proof Sys2Proof.Spec

variable {s t u : State} {p : PartResult}

/-- R192: symbols that find room in `PEND` wait there behind those that wait. -/
theorem exists_partRun_append {vs : List Nat} (hvs : ∀ v ∈ vs, v < 57) (hroom : s.cnt.toNat + vs.length ≤ 10) :
    ∃ t, PartRun (symbolText vs) s ⟨.ok, vs.length, []⟩ t ∧ t.cnt.toNat = s.cnt.toNat + vs.length ∧
      pendingSymbols t = pendingSymbols s ++ vs := by
  induction vs generalizing s with
  | nil => exact ⟨s, .nil s, rfl, (List.append_nil _).symm⟩
  | cons v vs ih =>
    obtain ⟨hv, hvs⟩ := List.forall_mem_cons.mp hvs
    rw [List.length_cons] at hroom
    have hcnt : s.cnt.toNat ≤ 9 := by omega
    have hadd : (appendSymbol v s).cnt.toNat = s.cnt.toNat + 1 := toNat_cnt_add_one s hcnt
    have hstep : Consumes s (classify (symbolByte v)) [] (appendSymbol v s) :=
      classify_symbolByte v hv ▸ Consumes.append v hcnt
    obtain ⟨t, hrun, htcnt, htpend⟩ := ih (s := appendSymbol v s) hvs (by omega)
    refine ⟨t, ?_, ?_, ?_⟩
    · have hfirst := PartRun.consume (b := symbolByte v) hstep hrun
      rwa [PartResult.andThen, PartResult.one, Nat.add_comm 1] at hfirst
    · rw [htcnt, hadd, List.length_cons]
      omega
    · rw [htpend, pendingSymbols_appendSymbol v s hcnt, Nat.mod_eq_of_lt (by omega), List.append_assoc]
      rfl

theorem symbols_lt {d : List Nat} (h : ∀ v ∈ d, v < 57) : ∀ v ∈ symbols d, v < 57 := by
  cases d with
  | nil => exact h
  | cons d ds => exact List.forall_mem_cons.mpr ⟨(List.forall_mem_cons.mp h).1, symbolsAfter_lt d ds⟩

theorem genc_lt (x : Nat) : ∀ v ∈ genc x, v < 57 := symbols_lt (digits_lt x 11 le_rfl)

theorem tenc_lt {n : Nat} (hn : n < 8) (v : Nat) : ∀ u ∈ tenc n v, u < 57 :=
  symbols_lt (digits_lt v _ ((digitsOf_bounds hn).1.trans (by omega)))

theorem symbolText_append (vs us : List Nat) : symbolText (vs ++ us) = symbolText vs ++ symbolText us :=
  List.map_append

/-- R192, R129: the symbols of a full group give back its integer, and leave the buffer empty. -/
theorem exists_partRun_genc {x : Nat} (hx : x < 2 ^ 64) (hs : s.cnt = 0) :
    ∃ t, PartRun (symbolText (genc x)) s ⟨.ok, 11, bytesLe 8 x⟩ t ∧ t.cnt = 0 := by
  have hlt := genc_lt x
  obtain ⟨vs, v, hgenc⟩ : ∃ vs v, genc x = vs ++ [v] :=
    (List.eq_nil_or_concat' (genc x)).resolve_left (List.ne_nil_of_length_pos (by rw [length_genc]; omega))
  have hlen : vs.length = 10 := by simpa [length_genc] using (congrArg List.length hgenc).symm
  have hcnt0 : s.cnt.toNat = 0 := congrArg BitVec.toNat hs
  rw [hgenc] at hlt ⊢
  obtain ⟨t, hrun, htcnt, htpend⟩ := exists_partRun_append (s := s) (vs := vs)
    (fun u hu => hlt u (List.mem_append_left _ hu)) (by omega)
  have hfull : 9 < t.cnt.toNat := by omega
  rw [pendingSymbols_of_full t hfull, pendingSymbols_of_cnt_eq_zero s hs, List.nil_append] at htpend
  have hvalue : gdec (t.pend.toList.map BitVec.toNat ++ [v]) = .value x := by
    rw [htpend, ← hgenc]
    exact fullGroupRoundTrip.1 x hx
  have hstep : Consumes t (classify (symbolByte v)) (bytesLe 8 x) (completeGroup v t) :=
    classify_symbolByte v (hlt v (by simp)) ▸ Consumes.complete v x hfull hvalue
  have hlast : PartRun [symbolByte v] t ⟨.ok, 1, bytesLe 8 x ++ []⟩ (completeGroup v t) := .consume hstep (.nil _)
  refine ⟨completeGroup v t, ?_, by rw [completeGroup_value v x t hvalue]⟩
  have hgroup := hrun.append rfl hlast
  rw [hlen, List.append_nil] at hgroup
  rw [symbolText_append]
  exact hgroup

/-- Full groups one after the other. -/
theorem exists_partRun_flatMap {xs : List Nat} (hxs : ∀ x ∈ xs, x < 2 ^ 64) (hs : s.cnt = 0) :
    ∃ n t, PartRun (symbolText (xs.flatMap genc)) s ⟨.ok, n, xs.flatMap (bytesLe 8)⟩ t ∧ t.cnt = 0 := by
  induction xs generalizing s with
  | nil => exact ⟨0, s, .nil s, hs⟩
  | cons x xs ih =>
    obtain ⟨hx, hxs⟩ := List.forall_mem_cons.mp hxs
    obtain ⟨t, hrun, ht⟩ := exists_partRun_genc hx hs
    obtain ⟨n, u, hrest, hu⟩ := ih (s := t) hxs ht
    refine ⟨11 + n, u, ?_, hu⟩
    rw [List.flatMap_cons, symbolText_append, List.flatMap_cons]
    exact hrun.append rfl hrest

/-- R197, R156: FLUSH of the symbols of a tail gives back its bytes. -/
theorem exists_issue_flush_tenc {n v : Nat} (hn : n < 8) (hv : v < 256 ^ n) (hcnt : s.cnt.toNat = digitsOf n)
    (hpend : pendingSymbols s = tenc n v) : ∃ t, issue .flush s = some (⟨.ok, true, bytesLe n v, 0⟩, t) := by
  obtain ⟨hk, hk0⟩ := digitsOf_bounds hn
  obtain rfl | hpos := Nat.eq_zero_or_pos n
  · have hs : s.cnt = 0 := BitVec.eq_of_toNat_eq hcnt
    exact ⟨decoderQuiet s, issue_of_exec (drain_of_cnt_eq_zero hs) rfl⟩
  · have hvalue : tdec (pendingSymbols s) = .value n v := by
      rw [hpend]
      exact tailRoundTrip.1 n v hpos (by omega) hv
    exact ⟨_, issue_of_exec (drain_of_tdec_value (by omega) (by omega) hvalue) rfl⟩

/-- R52, R53: the bytes of the integer of some bytes are those bytes. -/
theorem bytesLe_leNat (q : List Byte) : bytesLe q.length (leNat q) = q := by
  induction q with
  | nil => rfl
  | cons b q ih =>
    have hlow : BitVec.ofNat 8 (leNat (b :: q)) = b := by
      apply BitVec.eq_of_toNat_eq
      rw [BitVec.toNat_ofNat, leNat, Nat.add_mul_mod_self_left, Nat.mod_eq_of_lt b.isLt]
    have hhigh : leNat (b :: q) / 256 = leNat q := by
      rw [leNat, Nat.add_mul_div_left _ _ (by omega), Nat.div_eq_of_lt b.isLt, Nat.zero_add]
    rw [bytesLe, List.length_cons, List.range_succ_eq_map, List.map_cons, List.map_map, pow_zero, Nat.div_one, hlow]
    refine congrArg (b :: ·) (Eq.trans (List.map_congr_left fun j _ => ?_) ih)
    rw [Function.comp_apply, Nat.pow_succ', ← Nat.div_div_eq_div_mul, hhigh]

/-- The first `k` blocks of a message, joined. -/
theorem flatMap_blocks (q : List Byte) (k : Nat) :
    ((List.range k).flatMap fun j => (q.drop (8 * j)).take 8) = q.take (8 * k) := by
  induction k with
  | zero => rfl
  | succ k ih => rw [List.range_succ, List.flatMap_append, ih, List.flatMap_singleton, Nat.mul_succ, List.take_add]

/-- The integers of the full blocks of a message (R177). -/
def blockValues (q : List Byte) : List Nat :=
  (List.range (q.length / 8)).map fun j => leNat ((q.drop (8 * j)).take 8)

/-- The bytes of a message after its full blocks (R177). -/
def tailBytes (q : List Byte) : List Byte := q.drop (q.length - q.length % 8)

theorem length_tailBytes (q : List Byte) : (tailBytes q).length = q.length % 8 := by
  rw [tailBytes, List.length_drop]
  omega

theorem length_tailBytes_lt (q : List Byte) : (tailBytes q).length < 8 := by
  rw [length_tailBytes]
  omega

theorem messageSymbols_eq (q : List Byte) :
    messageSymbols q = (blockValues q).flatMap genc ++ tenc (tailBytes q).length (leNat (tailBytes q)) := by
  rw [length_tailBytes, blockValues, List.flatMap_map]
  rfl

theorem blockValues_lt (q : List Byte) : ∀ x ∈ blockValues q, x < 2 ^ 64 := by
  refine List.forall_mem_map.mpr fun j _ => ?_
  calc leNat ((q.drop (8 * j)).take 8) < 256 ^ ((q.drop (8 * j)).take 8).length := leNat_lt _
    _ ≤ 256 ^ 8 := Nat.pow_le_pow_right (by omega) (List.length_take_le _ _)
    _ = 2 ^ 64 := by norm_num

/-- R177: the blocks and the tail make up the message. -/
theorem blocks_append_tailBytes (q : List Byte) : (blockValues q).flatMap (bytesLe 8) ++ tailBytes q = q := by
  have hblock (j : Nat) (hj : j ∈ List.range (q.length / 8)) :
      bytesLe 8 (leNat ((q.drop (8 * j)).take 8)) = (q.drop (8 * j)).take 8 := by
    have hlen : ((q.drop (8 * j)).take 8).length = 8 := by
      have hlt := List.mem_range.mp hj
      rw [List.length_take, List.length_drop]
      omega
    have hbytes := bytesLe_leNat ((q.drop (8 * j)).take 8)
    rwa [hlen] at hbytes
  have hfull : 8 * (q.length / 8) = q.length - q.length % 8 := by omega
  rw [blockValues, List.flatMap_map, List.flatMap_congr hblock, flatMap_blocks, hfull, tailBytes,
    List.take_append_drop]

theorem messageSymbols_lt (q : List Byte) : ∀ v ∈ messageSymbols q, v < 57 := by
  intro v hv
  rw [messageSymbols_eq] at hv
  rcases List.mem_append.mp hv with hv | hv
  · obtain ⟨x, -, hv⟩ := List.mem_flatMap.mp hv
    exact genc_lt x v hv
  · exact tenc_lt (length_tailBytes_lt q) _ v hv

/-- R202: the symbols of a message, without line breaks, give its full blocks and leave the symbols of its tail
waiting. -/
theorem exists_partRun_message (q : List Byte) (hs : s.cnt = 0) :
    ∃ n t, PartRun (symbolText (messageSymbols q)) s ⟨.ok, n, (blockValues q).flatMap (bytesLe 8)⟩ t ∧
      t.cnt.toNat = digitsOf (tailBytes q).length ∧
      pendingSymbols t = tenc (tailBytes q).length (leNat (tailBytes q)) := by
  have hn := length_tailBytes_lt q
  have hlen := length_tenc hn (leNat (tailBytes q))
  have hk := (digitsOf_bounds hn).1
  obtain ⟨n, t, hfull, ht⟩ := exists_partRun_flatMap (blockValues_lt q) hs
  have hcnt0 : t.cnt.toNat = 0 := congrArg BitVec.toNat ht
  obtain ⟨u, htail, hcnt, hpend⟩ := exists_partRun_append (s := t) (tenc_lt hn (leNat (tailBytes q))) (by omega)
  rw [hcnt0, hlen, Nat.zero_add] at hcnt
  rw [pendingSymbols_of_cnt_eq_zero t ht, List.nil_append] at hpend
  have hrun := hfull.append rfl htail
  rw [PartResult.andThen, List.append_nil, ← symbolText_append, ← messageSymbols_eq] at hrun
  exact ⟨_, u, hrun, hcnt, hpend⟩

/-- R204: without the line breaks, a text of symbols is left. -/
theorem filter_lineText {vs : List Nat} (hvs : ∀ v ∈ vs, v < 57) (p : Nat) :
    (lineText p vs).filter (fun b => !isDelimiter b) = symbolText vs := by
  induction vs generalizing p with
  | nil => rfl
  | cons v vs ih =>
    obtain ⟨hv, hvs⟩ := List.forall_mem_cons.mp hvs
    have hsymbol : isDelimiter (symbolByte v) = false := by
      rw [← Bool.not_eq_true, isDelimiter_iff, classify_symbolByte v hv]
      nofun
    have hline (p : Nat) :
        (symbolByte v :: lineText p vs).filter (fun b => !isDelimiter b) = symbolText (v :: vs) := by
      rw [List.filter_cons_of_pos (by simp [hsymbol]), ih hvs]
      rfl
    rw [lineText]
    split
    · rw [List.filter_cons_of_neg (by decide), hline]
    · exact hline _

end Sys2Proof.Machine

namespace Sys2Proof.Machine

open Sys2Proof

/-- Settles O45: DECPART of the text of the message is that of its symbols without the line breaks
(`PartRun.withoutDelimiters`), which gives the full blocks (`exists_partRun_message`); FLUSH gives the tail. -/
theorem decodeOfEncodeIsTheMessage : Obligations.DecodeOfEncodeIsTheMessage := by
  intro q s
  obtain ⟨t, ht⟩ := encodeMessage_eq q s
  refine ⟨_, t, ht, fun u => ?_⟩
  obtain ⟨p, v, hrun⟩ := exists_partRun (lineText 0 (messageSymbols q)) (afterDinit u)
  obtain ⟨m, n', l', r', hsymbols, -⟩ :=
    hrun.withoutDelimiters (afterDinit u).consumed (afterDinit u).last (afterDinit u).resp
  rw [filter_lineText (messageSymbols_lt q)] at hsymbols
  obtain ⟨n, w, hmessage, hcnt, hpend⟩ := exists_partRun_message q (s := afterDinit u) rfl
  obtain ⟨hp, rfl⟩ := hsymbols.unique hmessage
  have hreason : p.reason = .ok := congrArg PartResult.reason hp
  have hdata : p.data = (blockValues q).flatMap (bytesLe 8) := congrArg PartResult.data hp
  obtain ⟨w, hflush⟩ := exists_issue_flush_tenc (s := v) (length_tailBytes_lt q) (leNat_lt _) hcnt hpend
  rw [bytesLe_leNat] at hflush
  have hmsg : p.data ++ tailBytes q = q := by rw [hdata, blocks_append_tailBytes]
  have hwritten : p.data.length + (tailBytes q).length = q.length := by rw [← List.length_append, hmsg]
  have hlen : (lineText 0 (messageSymbols q)).length = encodedLength q.length := by
    rw [length_lineText _ (by omega), encodedLength_eq (length_messageSymbols q).symm, Nat.zero_add]
  refine ⟨w, ?_⟩
  rw [decodeMessage_of_flushed hrun hreason hflush]
  simp only [hmsg, hwritten, hlen]

end Sys2Proof.Machine

/-! ### The results of RST, NOP and RDREG (10_state.md R30; 45_system.md R230 to R232) -/

namespace Sys2Proof.Machine

open Sys2Proof

/-- R191, R231: what DINIT leaves of `ERR` is `ERR[4]`. -/
theorem clearDecoderFlags_and_decoderMask (err : BitVec 5) : clearDecoderFlags err &&& 0b01111 = 0 := by
  rw [clearDecoderFlags, BitVec.and_assoc]
  exact BitVec.and_zero

/-- R27: a flag that is set stays so, whatever flags are added. -/
theorem or_and_eq_of_and_eq {err f : BitVec 5} (h : err &&& f = f) (added : BitVec 5) : (err ||| added) &&& f = f := by
  rw [BitVec.and_or_distrib_right, h]
  ext i hi
  simp

/-- R231: RST is the only instruction that clears `ERR[4]`. -/
theorem StatusEffect.keeps_illegalFlag {i : Instr} {s t : State} (he : StatusEffect s i t) (hi : i ≠ .rst)
    (hset : s.err &&& 0b10000 = 0b10000) : t.err &&& 0b10000 = 0b10000 := by
  cases he with
  | rst => exact absurd rfl hi
  | dinit =>
    change (s.err &&& 0b10000) &&& 0b10000 = 0b10000
    rw [hset, BitVec.and_self]
  | text _ htext =>
    obtain ⟨r, ⟨-, herr⟩, -⟩ := htext
    rw [herr]
    exact or_and_eq_of_and_eq hset _
  | other _ hr _ =>
    obtain ⟨-, herr⟩ := hr
    rw [herr]
    exact or_and_eq_of_and_eq hset _

/-- R230, R71: of the command words, NOP has the one of format Z with opcode 0. -/
theorem commandOf_nop_iff (cw : CmdWord) (din : DataWord) : CommandOf cw din .nop ↔ cw = 0x0000 :=
  ⟨fun h => by cases h with | nop h => exact h, .nop⟩

/-- R30, R232: STATUS as a number, field by field. -/
theorem toNat_statusWord (s : State) :
    (statusWord s).toNat = s.last.toNat + 8 * s.err.toNat + 256 * s.cnt.toNat + 4096 * s.gcnt.toNat := by
  have hlast := s.last.isLt
  have herr := s.err.isLt
  have hcnt := s.cnt.isLt
  rw [statusWord, BitVec.toNat_append, BitVec.toNat_append, BitVec.toNat_append,
    ← Nat.shiftLeft_add_eq_or_of_lt hlast, ← Nat.shiftLeft_add_eq_or_of_lt herr,
    ← Nat.shiftLeft_add_eq_or_of_lt hcnt]
  simp only [Nat.shiftLeft_eq]
  omega

theorem readRegister_status (s : State) : readRegister 0 s =
    some (BitVec.ofNat 65 (s.last.toNat + 8 * s.err.toNat + 256 * s.cnt.toNat + 4096 * s.gcnt.toNat)) := by
  rw [← toNat_statusWord, BitVec.ofNat_toNat]
  rfl

theorem readRegister_consumed (s : State) : readRegister 1 s = some (BitVec.ofNat 65 s.consumed.toNat) :=
  congrArg some (BitVec.ofNat_toNat 65 s.consumed).symm

theorem readRegister_produced (s : State) : readRegister 2 s = some (BitVec.ofNat 65 s.produced.toNat) :=
  congrArg some (BitVec.ofNat_toNat 65 s.produced).symm

/-- R30, R232: PENDV as a sum over the ten registers of `PEND`. -/
theorem pendValue_eq_sum (s : State) :
    pendValue s = ∑ i : Fin 10, if i.val < s.cnt.toNat then (s.pend[i]).toNat * 2 ^ (6 * i.val) else 0 := by
  rw [pendValue, ← List.map_coe_finRange_eq_range, List.map_map, Fin.sum_univ_def]
  refine congrArg List.sum (List.map_congr_left fun i _ => ?_)
  simp

theorem readRegister_pendv (s : State) : readRegister 3 s = some (BitVec.ofNat 65
    (∑ i : Fin 10, if i.val < s.cnt.toNat then (s.pend[i]).toNat * 2 ^ (6 * i.val) else 0)) := by
  rw [← pendValue_eq_sum]
  rfl

theorem readRegister_id (s : State) : readRegister 4 s = some 0x42353701 := rfl

/-- R232, R233: the registers 5..15 are an illegal command. -/
theorem exec_rdreg_of_reserved {r : BitVec 4} (h : 5 ≤ r.toNat) (s : State) :
    exec (.rdreg r) s = .next (raise .illegal s) := by
  have hnone : readRegister r s = none := by
    rw [← Option.not_isSome_iff_eq_none, readRegister_isSome, decide_eq_true_eq]
    omega
  simp [exec, execRdreg, hnone]

end Sys2Proof.Machine

namespace Sys2Proof.Machine

/-- Settles O15: what RST writes, the flags that DINIT leaves, and the kind of every other instruction. -/
theorem rstResult : Obligations.RstResult := by
  refine ⟨exec_rst, fun s t u ht hu => ?_, fun i s t hi ht => (exec_status ht).keeps_illegalFlag hi⟩
  cases ht
  cases hu
  change _ = Host.Outcome.next { afterRst s with err := clearDecoderFlags s.err &&& 0b01111 }
  rw [clearDecoderFlags_and_decoderMask]
  exact exec_rst s

/-- Settles O16: the decoder reads NOP exactly from NOP's row of the opcode map. -/
theorem nopResult : Obligations.NopResult :=
  ⟨fun _ => rfl, fun cw din => decodeCommand_eq_ok_iff.trans (commandOf_nop_iff cw din)⟩

/-- Settles O17, register by register. -/
theorem rdregResult : Obligations.RdregResult := by
  intro s
  exact ⟨exec_rdreg_of_some (readRegister_status s), exec_rdreg_of_some (readRegister_consumed s),
    exec_rdreg_of_some (readRegister_produced s), exec_rdreg_of_some (readRegister_pendv s),
    exec_rdreg_of_some (readRegister_id s), fun _ hr => exec_rdreg_of_reserved hr s⟩

end Sys2Proof.Machine

/-! ### The exceptions of the decoder (42_tail.md R154; 60_exceptions.md R251, R252, R254, R258) -/

namespace Sys2Proof.Machine

open Sys2Proof

/-- R154: the counts of symbols that no tail has are truncated, whatever the symbols. -/
theorem tdec_eq_truncated_of_bytesOf {q : List Nat} (h : bytesOf q.length = none) : tdec q = .truncated := by
  simp only [tdec, h]

theorem drain_of_tdec_truncated {s : State} (hpos : 0 < s.cnt.toNat) (hle : s.cnt.toNat ≤ 10)
    (h : tdec (pendingSymbols s) = .truncated) : drain s = .next (raise .truncated (s.withCnt 0)) := by
  simp [drain, h, hpos.ne', hle.not_gt]

/-- R9: the counts of symbols, up to ten, that no tail has. -/
theorem bytesOf_eq_none_of_mem {k : Nat} (h : k ∈ [1, 4, 8]) : bytesOf k = none ∧ 1 ≤ k ∧ k ≤ 10 := by
  simp only [List.mem_cons, List.not_mem_nil, or_false] at h
  rcases h with rfl | rfl | rfl <;> exact ⟨rfl, by omega, by omega⟩

/-- R251: a Control byte raises CONTROL, under DECB and as SYM.CTRL. -/
theorem exec_of_control {b : Byte} {i : Instr} (hb : Spec.classByRanges b.toNat = 0x80)
    (hi : i ∈ [Instr.decb b, Instr.symCtrl b]) (s : State) : exec i s = .next (raise .control s) := by
  rcases List.mem_pair.mp hi with rfl | rfl
  · simp [exec, execDecb, (classify_eq_control_iff b).mpr hb]
  · rfl

/-- R252: an Invalid byte raises INVALID, under DECB and as SYM.INVAL. -/
theorem exec_of_invalid {b : Byte} {i : Instr} (hb : Spec.classByRanges b.toNat = 0xC0)
    (hi : i ∈ [Instr.decb b, Instr.symInval b]) (s : State) : exec i s = .next (raise .invalid s) := by
  rcases List.mem_pair.mp hi with rfl | rfl
  · simp [exec, execDecb, (classify_eq_invalid_iff b).mpr hb]
  · rfl

end Sys2Proof.Machine

/-! ### The block never locks up (20_memory.md R58; 60_exceptions.md R259; 70_reset_and_hazards.md R296) -/

namespace Sys2Proof.Machine

open Sys2Proof

variable {s : State}

theorem cnt_le_of_inv (h : s.inv = true) : s.cnt.toNat ≤ 10 := ((inv_iff s).mp h).1

theorem Answered.resp_isSome (h : Answered s) : s.resp.isSome = true := by
  obtain ⟨r, hr, -⟩ := h.record
  exact Option.isSome_of_eq_some hr

/-- R58, R259: a word that waits, legal or not, is taken and answered, and those behind it go on waiting. -/
theorem exists_step_answered {p : PortWord} {rest : List PortWord} (hcnt : s.cnt.toNat ≤ 10) (hp : s.port = p :: rest) :
    ∃ t, step s = .next t ∧ t.port = rest ∧ Answered t := by
  cases hd : decode p with
  | ok i =>
    obtain ⟨t, ht⟩ := exec_answers i (s.withPort rest) hcnt
    exact ⟨t, (step_of_decode_ok s p rest i hp hd).trans ht, port_of_exec ht, (exec_effect i _).answered ht⟩
  | error e => exact ⟨_, step_of_decode_error s p rest e hp hd, rfl, .raised _ _⟩

theorem exists_step (hcnt : s.cnt.toNat ≤ 10) : ∃ t, step s = .next t := by
  cases hp : s.port with
  | nil => exact ⟨s, step_of_port_nil s hp⟩
  | cons p rest =>
    obtain ⟨t, ht, -⟩ := exists_step_answered hcnt hp
    exact ⟨t, ht⟩

/-- R259: a step from a legal state answers a legal state, from which the rest of the run is safe in turn. -/
theorem runsSafely_of_inv (n : Nat) (h : s.inv = true) : runsSafely n s := by
  induction n generalizing s with
  | zero => trivial
  | succ n ih =>
    obtain ⟨t, ht⟩ := exists_step (cnt_le_of_inv h)
    exact ⟨t, ht, ih (step_keeps_inv h ht)⟩

/-- R259, R296: a run as long as the queue empties it. A response, once there, stays until the next one, so it is enough
that one word waits or that a response is there already. -/
theorem exists_run_empties_port {words : List PortWord} (hport : s.port = words) (h : s.inv = true) :
    ∃ t, core.run words.length s = .next t ∧ t.port = [] ∧ t.inv = true ∧
      (words ≠ [] ∨ s.resp.isSome = true → t.resp.isSome = true) := by
  induction words generalizing s with
  | nil => exact ⟨s, rfl, hport, h, fun hresp => hresp.resolve_left (absurd rfl)⟩
  | cons p rest ih =>
    obtain ⟨u, hu, hrest, hanswered⟩ := exists_step_answered (cnt_le_of_inv h) hport
    obtain ⟨t, ht, hempty, hinv, hresp⟩ := ih hrest (step_keeps_inv h hu)
    have hstep : core.step s = .next u := hu
    refine ⟨t, ?_, hempty, hinv, fun _ => hresp (.inr hanswered.resp_isSome)⟩
    simp only [List.length_cons, Host.Core.run, hstep]
    exact ht

end Sys2Proof.Machine

namespace Sys2Proof.Machine

open Sys2Proof

/-- Settles O10, by induction on the words that wait: each is taken and answered (`exists_step_answered`). -/
theorem everyPresentedWordIsAnswered : Obligations.EveryPresentedWordIsAnswered := by
  intro s h
  obtain ⟨t, hrun, hempty, hinv, hresp⟩ := exists_run_empties_port rfl h
  exact ⟨t, hrun, hempty, hinv, fun hport => hresp (.inl hport)⟩

/-- Settles O13, by induction on the steps of the run: a legal state has a step, to a legal state. -/
theorem legalStatesNeverStop : Obligations.LegalStatesNeverStop :=
  fun n _ h => runsSafely_of_inv n h

/-- Settles O41: no tail has so many symbols, so that TDEC reads none of them. -/
theorem flushOfATruncatedCount : Obligations.FlushOfATruncatedCount := by
  intro s hcnt
  obtain ⟨hnone, hpos, hle⟩ := bytesOf_eq_none_of_mem hcnt
  have htruncated : tdec (pendingSymbols s) = .truncated :=
    tdec_eq_truncated_of_bytesOf (length_pendingSymbols hle ▸ hnone)
  rw [exec, execFlush, drain_of_tdec_truncated hpos hle htruncated]
  rfl

/-- Settles O36: at every `CNT` all that a stop byte does is to take its exception. -/
theorem stopBytesAreNotConsumed : Obligations.StopBytesAreNotConsumed := by
  intro b s
  refine ⟨fun hb i hi => ?_, fun hb i hi => ?_⟩
  · rw [exec_of_control hb hi, raise_eq]
    rfl
  · rw [exec_of_invalid hb hi, raise_eq]
    rfl

end Sys2Proof.Machine

/-! ### The block waits for a command (70_reset_and_hazards.md R280) -/

namespace Sys2Proof.Machine

open Sys2Proof

/-- Settles O7: `fetch` takes nothing from an empty port, so that `step` answers the state as it is
(`step_of_port_nil`). -/
theorem stepWaitsForACommand : Obligations.StepWaitsForACommand :=
  fun s hport => step_of_port_nil s hport

end Sys2Proof.Machine
